-- ==== Sys2Proof/Word.lean ====
section
/-! DEFINITION. The bit widths of the engine (spec/00_scope.md R6, R8, R9): bytes, 32-bit words, window offsets, and the
64-bit block as its two halves. -/

namespace Sys2Proof

/-- One byte of a key, an IV or a message (R10). -/
abbrev Byte := BitVec 8

/-- WORD_BITS = 32: a P or S entry, a block half, a bus word (R6). -/
abbrev Word := BitVec 32

/-- A byte offset in the host window, 0x0000 to 0xFFFF (R80). -/
abbrev Offset := BitVec 16

/-- A 64-bit block value `(L, R)`, which stands for `L || R` (R9). -/
structure Block where
  l : Word
  r : Word
  deriving DecidableEq, Repr

/-- The block `(0, 0)`. -/
def Block.zero : Block := ⟨0#32, 0#32⟩

/-- `a +32 b = (a + b) mod 2^32` (R9): it wraps and reports no carry (R209). -/
def add32 (a b : Word) : Word := a + b

end Sys2Proof
end

