-- ==== Sys2Proof/Config.lean ====
section
/-! DEFINITION. What is fixed for one engine: the parameters of spec/00_scope.md R6 and R7, the error codes of
spec/60_exceptions.md R345, and the free values, opaque constants that no proof can evaluate. -/

namespace Sys2Proof

namespace Config

/-- KEY_MIN_BYTES (R6). -/
def keyMin : Nat := 4

/-- KEY_MAX_BYTES, the size of the KEY buffer (R6, R34). -/
def keyMax : Nat := 56

/-- IV_BYTES (R6). -/
def ivBytes : Nat := 8

/-- BLOCK_BYTES (R6). -/
def blockBytes : Nat := 8

/-- ROUNDS of the block core (R6). -/
def rounds : Nat := 16

/-- P_WORDS (R6). -/
def pWords : Nat := 18

/-- S_TABLES (R6). -/
def sTables : Nat := 4

/-- S_WORDS per table (R6). -/
def sWords : Nat := 256

/-- KS_ENCRYPTIONS = 9 + 4 * 128 (R6, R159). -/
def ksEncryptions : Nat := 521

/-- The constant the ID register reads, ASCII "BLOW" (R3, R39). -/
def idWord : Word := 0x424C4F57#32

end Config

/-- ZERO_PAD_ALIGNED (R7): what zero padding appends to a non-empty, already aligned message (R242). -/
inductive ZeroPadAligned where
  /-- eight zero bytes -/
  | full
  /-- nothing -/
  | none
  deriving DecidableEq, Repr

/-- The parameters R7 says the model takes as arguments. They stand in State, which no step lets change, so that a
statement about every state is a statement about every engine (log 1). `msgBlocks` is MSG_MAX / 8 - 1: its 2047 values are
exactly the legal MSG_MAX, the multiples of 8 from 8 to 16376. CMD_LATENCY is the list State.turns (log 3). -/
structure Params where
  msgBlocks      : Fin 2047
  zeroPadAligned : ZeroPadAligned
  schedReadback  : Bool
  deriving DecidableEq, Repr

/-- MSG_MAX, the size of IN in bytes (R7). -/
def Params.msgMax (c : Params) : Nat := 8 * (c.msgBlocks.val + 1)

/-- The defaults of R7: MSG_MAX = 4096, ZERO_PAD_ALIGNED = FULL, SCHED_READBACK = 1. -/
def Params.default : Params := ⟨511, .full, true⟩

/-- The error codes of R345. Codes 9 to 15 are reserved and never produced, so they are no value of this type. -/
inductive ErrCode where
  | ok
  | keySize
  | ivSize
  | dataLength
  | padding
  | noSchedule
  | illegalCmd
  | badConfig
  | msgTooLong
  deriving DecidableEq, Repr, Inhabited

namespace Config

/-- FREE VALUE (log 9): the n-th draw, "any 32-bit value, independently at each read" (R12). -/
opaque draw : Nat → Word

/-- FREE VALUE (log 8): what a half of the datapath (XL or XR) holds after a command that used it (R51). -/
opaque idleHalf : Nat → Word

/-- FREE VALUE (log 11): word `i` (numbered as PI is, R190) of P and S after a SCHEDULE that consumed an undef byte and has
"no defined result" (R38). -/
opaque undefTableWord : Nat → Nat → Word

/-- FREE VALUE (log 11): SCHED_VALID after such a SCHEDULE. -/
opaque undefSchedValid : Nat → Bool

/-- FREE VALUE (log 11, 12): ERRCODE after a command that consumed an undef byte. -/
opaque undefErrCode : Nat → ErrCode

/-- FREE VALUE (log 12): OUTLEN after an ENCRYPT or DECRYPT that consumed an undef byte. -/
opaque undefOutlen : Nat → BitVec 16

end Config

end Sys2Proof
end

