-- ==== Sys2Proof/Syntax.lean ====
section
/-! DEFINITION. The whole syntax: the eight commands of spec/30_encoding.md R123 (the engine's instructions) and the host's
assembly notation of R126 and R127. -/

namespace Sys2Proof

/-- The commands, one constructor per row of spec/opcode_table.json. No command has an operand field (R122). -/
inductive Instr where
  /-- NOP, R320 -/
  | nop
  /-- SCHEDULE, R151 -/
  | schedule
  /-- ENCRYPT, R273 -/
  | encrypt
  /-- DECRYPT, R274 -/
  | decrypt
  /-- ENCBLK, R204 -/
  | encblk
  /-- DECBLK, R205 -/
  | decblk
  /-- CLRERR, R321 -/
  | clrerr
  /-- ZEROIZE, R323 -/
  | zeroize
  deriving DecidableEq, Repr

/-- CONFIG.MODE without its reserved value 3 (R42). -/
inductive Mode where
  | ecb
  | cbc
  | cfb
  deriving DecidableEq, Repr

/-- CONFIG.PAD without its reserved value 3 (R42, R240). -/
inductive Pad where
  | none
  | zero
  | pkcs7
  deriving DecidableEq, Repr

/-- The two message commands, which share their checks (R346). -/
inductive Dir where
  | encrypt
  | decrypt
  deriving DecidableEq, Repr

/-- A bus transfer without its address: a read, or a write of a word. -/
inductive BusOp where
  | read
  | write (v : Word)
  deriving DecidableEq, Repr

/-- One operation of a host program. `access` carries its width in bits, so that the accesses R85 does not define can be
written down (and are refused). `wait` is the polling loop of R127. -/
inductive HostOp where
  | access (width : Nat) (off : Offset) (op : BusOp)
  | wait
  deriving DecidableEq, Repr

/-- `wr OFF, VAL` (R126). -/
abbrev HostOp.wr (off : Offset) (v : Word) : HostOp := .access 32 off (.write v)

/-- `rd OFF -> NAME` (R126). -/
abbrev HostOp.rd (off : Offset) : HostOp := .access 32 off .read

/-- The pseudo-instructions of R127. -/
inductive Pseudo where
  /-- a command mnemonic -/
  | command (i : Instr)
  | wait
  | wrbuf (base : Offset) (bytes : List Byte)
  | setcfg (m : Mode) (p : Pad)
  | rdbuf (base : Offset) (n : Nat)
  deriving DecidableEq, Repr

/-- Which agent takes the next step (R14, R380): the host with one access, the engine with an internal sequencer step or
with the completion step of R342, or the environment asserting reset. -/
inductive Turn where
  | host
  | sequencer
  | completion
  | reset
  deriving DecidableEq, Repr

end Sys2Proof
end

