-- ==== Sys2Proof/WellFormed.lean ====
section
/-! DEFINITION. Well-formedness of the syntax. A command has no operand field, so every command is well formed
(spec/30_encoding.md R122). A host access is well formed when spec/20_memory.md R85 defines it. -/

namespace Sys2Proof

/-- Every command: there is no immediate and no register number to check (R122). -/
def Instr.wf : Instr → Bool
  | .nop => true
  | .schedule => true
  | .encrypt => true
  | .decrypt => true
  | .encblk => true
  | .decblk => true
  | .clrerr => true
  | .zeroize => true

/-- An offset of an access the engine defines is a multiple of 4 (R85). -/
def Offset.aligned (off : Offset) : Bool := off.toNat % 4 == 0

/-- R85: "Only aligned 32-bit accesses exist." -/
def HostOp.wf : HostOp → Bool
  | .access width off _ => width == 32 && Offset.aligned off
  | .wait => true

/-- A buffer transfer starts at an aligned offset and stays inside the window (R80, R85). -/
def Pseudo.wf : Pseudo → Bool
  | .command i => i.wf
  | .wait => true
  | .wrbuf base bytes => Offset.aligned base && decide (base.toNat + bytes.length ≤ 0x10000)
  | .setcfg _ _ => true
  | .rdbuf base n => Offset.aligned base && decide (base.toNat + n ≤ 0x10000)

/-- Every access of the program is one the engine defines. -/
def programWf (prog : List HostOp) : Bool := prog.all HostOp.wf

end Sys2Proof
end

