-- ==== Sys2Proof/Decode.lean ====
section
/-! DEFINITION. Decoding of a command word, total on every 32-bit word (spec/30_encoding.md R120 to R125), and after it the
encoder. -/

namespace Sys2Proof

/-- Why a word is ILLEGAL (R124). -/
inductive IllegalWord where
  /-- RSV (bits 31:8) is not 0 -/
  | reservedField
  /-- RSV is 0 and OPC is in 0x08..0xFF -/
  | unassignedOpcode
  deriving DecidableEq, Repr

/-- What `decode` gives (R125): a command, or ILLEGAL. -/
inductive Decoded where
  | command (i : Instr)
  | illegal (why : IllegalWord)
  deriving DecidableEq, Repr

/-- OPC, bits 7:0 of a command word (R120). -/
def opcField (v : Word) : Byte := v.extractLsb' 0 8

/-- RSV, bits 31:8 of a command word (R120). -/
def rsvField (v : Word) : BitVec 24 := v.extractLsb' 8 24

/-- The opcode map of R123. -/
def decodeOpc (opc : Byte) : Option Instr :=
  if opc = 0x00#8 then some .nop
  else if opc = 0x01#8 then some .schedule
  else if opc = 0x02#8 then some .encrypt
  else if opc = 0x03#8 then some .decrypt
  else if opc = 0x04#8 then some .encblk
  else if opc = 0x05#8 then some .decblk
  else if opc = 0x06#8 then some .clrerr
  else if opc = 0x07#8 then some .zeroize
  else none

/-- R125, total on every 32-bit word. -/
def decode (v : Word) : Decoded :=
  if rsvField v ≠ 0#24 then .illegal .reservedField
  else match decodeOpc (opcField v) with
    | some i => .command i
    | none => .illegal .unassignedOpcode

/-- The decoder on a word given as the opcode table numbers its bits. A command is exactly 32 bits (R121), one bus word, so
no byte order enters (log 20). -/
def decodeTableWord (nbits w : Nat) : Option Instr :=
  let v := w % 2 ^ nbits
  if v < 2 ^ 32 then
    match decode (BitVec.ofNat 32 v) with
    | .command i => some i
    | .illegal _ => none
  else none

/-- The opcode of each command (R123). -/
def opcode : Instr → Byte
  | .nop => 0x00#8
  | .schedule => 0x01#8
  | .encrypt => 0x02#8
  | .decrypt => 0x03#8
  | .encblk => 0x04#8
  | .decblk => 0x05#8
  | .clrerr => 0x06#8
  | .zeroize => 0x07#8

/-- The word of a command: RSV = 0 above its opcode (R120, R123). -/
def encode (i : Instr) : Word := 0#24 ++ opcode i

end Sys2Proof
end

