-- ==== Sys2Proof/Machine/State.lean ====
section
/-! DEFINITION. The state of the machine as plain data: the tuple of spec/10_state.md R30, the model's own fields (the
parameters of R7, the interleaving, the host agent, the count of free values), the reasons a step can stop, and the state
after reset (R58). -/

namespace Sys2Proof.Machine

/-- The schedule tables: the P-array (R31) and the four S-boxes (R32). -/
structure Schedule where
  p    : Vector Word 18
  sbox : Vector (Vector Word 256) 4
  deriving DecidableEq, Repr

/-- Tables of zero words: what ZEROIZE leaves (R323), and the value this model names for reset, where the spec says `undef`
(R58; DESIGN CHOICE, unsafe, log 6). -/
def Schedule.zero : Schedule :=
  ⟨Vector.replicate 18 0#32, Vector.replicate 4 (Vector.replicate 256 0#32)⟩

/-- The key-schedule sequencer's phases (R53, R150). -/
inductive KsPhase where
  | idle
  | check
  | init
  | xor
  | enc
  | done
  deriving DecidableEq, Repr

/-- The byte buffers, by window offset (R81, R84), strictly rising. An unlisted byte is `undef` (R38): it has no value. -/
abbrev Memory := List Host.Cell

/-- No step of this machine stops with a fault: the spec has no traps (R347), and FAULT_UNDEF is a sticky mark in State,
"never final" (R358). The type has no constructor; nobody raises it. -/
inductive Fault
  deriving DecidableEq, Repr

/-- Why a step gives no next state. -/
inductive Refusal where
  /-- An arm of exec that has no meaning yet. Raised by exec only; safe. -/
  | notModelled (mnemonic : String)
  /-- REFUSED (R85, R358): the host's next access is misaligned or not 32 bits wide, and "the host agent has no step".
  Raised by the host step; safe. -/
  | undefinedAccess (width : Nat) (off : Offset)
  deriving DecidableEq, Repr

/-- The state. -/
structure State where
  /-- the model's parameters (R7); no step changes them (log 1) -/
  params     : Params
  /-- P and S0..S3 (R31, R32) -/
  sched      : Schedule
  /-- KEY, IV, IN and OUT (R34 to R38) -/
  mem        : Memory
  /-- CONFIG (R42) -/
  config     : Word
  /-- KEYLEN (R43) -/
  keylen     : BitVec 6
  /-- IVLEN (R44) -/
  ivlen      : BitVec 4
  /-- MSGLEN (R45) -/
  msglen     : BitVec 16
  /-- OUTLEN (R46) -/
  outlen     : BitVec 16
  /-- IRQ_STATUS.DONE (R47) -/
  done       : Bool
  /-- BLK_L (R49) -/
  blkL       : Word
  /-- BLK_R (R49) -/
  blkR       : Word
  /-- STATUS.BUSY (R41) -/
  busy       : Bool
  /-- STATUS.SCHED_VALID (R33, R41) -/
  schedValid : Bool
  /-- STATUS.OVERRUN (R41) -/
  overrun    : Bool
  /-- STATUS.ERRCODE (R41, R345) -/
  errcode    : ErrCode
  /-- STATUS.LAST_OP (R41) -/
  lastOp     : Byte
  /-- CMDREG (R50) -/
  cmdreg     : Word
  /-- XL (R51) -/
  xl         : Word
  /-- XR (R51) -/
  xr         : Word
  /-- CHAIN (R52), as its halves -/
  chain      : Block
  /-- KS_PHASE (R53) -/
  ksPhase    : KsPhase
  /-- KS_IDX (R53) -/
  ksIdx      : BitVec 10
  /-- RND (R54) -/
  rnd        : BitVec 5
  /-- BLK_IDX (R54) -/
  blkIdx     : BitVec 11
  /-- FAULT_UNDEF (R38, R358) -/
  faultUndef : Bool
  /-- how many free values have been drawn (R12; log 9) -/
  draws      : Nat
  /-- the host's remaining program (R126; log 5) -/
  program    : List HostOp
  /-- what the host's reads returned, newest first (R126; log 5) -/
  reads      : List (Offset × Word)
  /-- which agent moves next, soonest first (R14; log 4) -/
  turns      : List Turn
  deriving DecidableEq, Repr

/-- The "after reset" column of R58 for an engine with parameters `c`. The values of P, S, CMDREG, XL and XR are this
model's (log 6, log 7); every byte of KEY, IV, IN and OUT is undef. -/
def State.resetWith (c : Params) : State where
  params     := c
  sched      := Schedule.zero
  mem        := []
  config     := 0#32
  keylen     := 0#6
  ivlen      := 0#4
  msglen     := 0#16
  outlen     := 0#16
  done       := false
  blkL       := 0#32
  blkR       := 0#32
  busy       := false
  schedValid := false
  overrun    := false
  errcode    := .ok
  lastOp     := 0x00#8
  cmdreg     := 0#32
  xl         := 0#32
  xr         := 0#32
  chain      := Block.zero
  ksPhase    := .idle
  ksIdx      := 0#10
  rnd        := 0#5
  blkIdx     := 0#11
  faultUndef := false
  draws      := 0
  program    := []
  reads      := []
  turns      := []

/-- The machine right after reset (R58, R380), with the default parameters of R7. -/
def State.reset : State := State.resetWith Params.default

end Sys2Proof.Machine
end

