-- ==== Sys2Proof/Machine/Ops.lean ====
section
/-! DEFINITION. The named operations over memory, tables and registers: bytes and words, the buffers of the host window, the
table words, and the two ends of a command, issue (spec/60_exceptions.md R341) and completion (R342). The engine has no
exception entry and no return (R347, R348): an error is a completion with a nonzero code. -/

namespace Sys2Proof.Machine

/-! ## Bytes, words and blocks (R10) -/

/-- `BE32`: the first byte goes to bits 31:24 (R10, R82, R83). -/
def be32 (b0 b1 b2 b3 : Byte) : Word := b0 ++ b1 ++ b2 ++ b3

/-- Byte `i` of a sequence (R10); sequences are never read past their end. -/
def byteAt (b : List Byte) (i : Nat) : Byte := b.getD i 0#8

/-- The four bytes of a word, bits 31:24 first (R84). -/
def wordBytes (w : Word) : List Byte :=
  [w.extractLsb' 24 8, w.extractLsb' 16 8, w.extractLsb' 8 8, w.extractLsb' 0 8]

/-- The word of the four bytes of `b` from index `i` (R10). -/
def wordAt (b : List Byte) (i : Nat) : Word :=
  be32 (byteAt b i) (byteAt b (i + 1)) (byteAt b (i + 2)) (byteAt b (i + 3))

/-- `Block(b) = (BE32(b[0..4)), BE32(b[4..8)))` (R10, R83). -/
def blockOfBytes (b : List Byte) : Block := ⟨wordAt b 0, wordAt b 4⟩

/-- `Bytes(L, R)`, the inverse of `Block` (R10). -/
def bytesOfBlock (b : Block) : List Byte := wordBytes b.l ++ wordBytes b.r

/-- Bytewise XOR, as long as the shorter operand (45_modes.md, notation; R281 for a partial block). -/
def xorBytes (x y : List Byte) : List Byte := List.zipWith (fun a b => a ^^^ b) x y

/-- `zeros(n)` (R10). -/
def zeros (n : Nat) : List Byte := List.replicate n 0#8

/-! ## Memory: the bytes of the four buffers -/

/-- The canonical form: addresses strictly rising. (An unlisted byte has no value, so no entry can equal it.) -/
abbrev Memory.wf (m : Memory) : Prop := m.Pairwise (fun a b => a.1 < b.1)

/-- One byte: `none` is `undef` (R38). -/
def Memory.read (m : Memory) (a : Nat) : Option Byte :=
  match m with
  | [] => none
  | (a', b) :: rest => if a' = a then some b else Memory.read rest a

/-- The cells of a byte sequence that starts at address `a`. -/
def Memory.cells (a : Nat) (bs : List Byte) : Memory :=
  match bs with
  | [] => []
  | b :: rest => (a, b) :: Memory.cells (a + 1) rest

/-- Store a byte sequence at `a`. Every store of the model goes through this. -/
def Memory.write (m : Memory) (a : Nat) (bs : List Byte) : Memory :=
  m.filter (fun c => c.1 < a) ++ Memory.cells a bs ++ m.filter (fun c => a + bs.length ≤ c.1)

/-- Make `n` bytes from `a` undef. -/
def Memory.erase (m : Memory) (a n : Nat) : Memory :=
  m.filter (fun c => c.1 < a) ++ m.filter (fun c => a + n ≤ c.1)

/-- `n` bytes from `a`; `none` if one of them is undef. -/
def Memory.readRange (m : Memory) (a : Nat) : Nat → Option (List Byte)
  | 0 => some []
  | n + 1 =>
    match Memory.read m a, Memory.readRange m (a + 1) n with
    | some b, some rest => some (b :: rest)
    | _, _ => none

/-- The byte buffers (R30). -/
inductive Buf where
  | key
  | iv
  | inp
  | out
  deriving DecidableEq, Repr

/-- Where a buffer's byte 0 stands in the host window (R81, R84). -/
def Buf.base : Buf → Nat
  | .key => 0x0040
  | .iv => 0x0080
  | .inp => 0x4000
  | .out => 0x8000

/-- How many bytes a buffer holds (R34 to R37). -/
def Buf.size (c : Params) : Buf → Nat
  | .key => Config.keyMax
  | .iv => Config.ivBytes
  | .inp => c.msgMax
  | .out => c.msgMax + 8

/-- `BufRead(buf, i)` (R11, R94). -/
def State.bufRead (s : State) (b : Buf) (i : Nat) : Option Byte := Memory.read s.mem (b.base + i)

/-- `buf[0..n)`, `none` if one of the bytes is undef (R38). -/
def State.bufBytes (s : State) (b : Buf) (n : Nat) : Option (List Byte) := Memory.readRange s.mem b.base n

/-- `BufWrite(buf, i, v)` for the bytes `bs` from index `i` on (R11, R94). -/
def State.bufWrite (b : Buf) (i : Nat) (bs : List Byte) (s : State) : State :=
  { s with mem := Memory.write s.mem (b.base + i) bs }

/-- `buf[0..size) <- zeros(size)`. -/
def State.bufClear (b : Buf) (s : State) : State := s.bufWrite b 0 (zeros (b.size s.params))

/-- Every byte of a buffer becomes undef. -/
def State.bufUndef (b : Buf) (s : State) : State :=
  { s with mem := Memory.erase s.mem b.base (b.size s.params) }

/-! ## Table words (R94) -/

/-- `P[i]`; no rule reads past 17. -/
def Schedule.pAt (t : Schedule) (i : Nat) : Word := t.p[i]?.getD 0#32

/-- `P[i] <- v`. -/
def Schedule.setP (t : Schedule) (i : Nat) (v : Word) : Schedule := { t with p := t.p.setIfInBounds i v }

/-- `Sk[j]`; no rule reads past S3 or past index 255 (R201). -/
def Schedule.sAt (t : Schedule) (k j : Nat) : Word := (t.sbox[k]?.bind (fun b => b[j]?)).getD 0#32

/-- `Sk[j] <- v`. -/
def Schedule.setS (t : Schedule) (k j : Nat) (v : Word) : Schedule :=
  match t.sbox[k]? with
  | some b => { t with sbox := t.sbox.setIfInBounds k (b.setIfInBounds j v) }
  | none => t

/-! ## The two ends of a command -/

/-- Issue of word `v` (R341): CMDREG and BUSY, SCHED_VALID cleared for SCHEDULE and ZEROIZE, and the sequencer's
KS_IDLE to KS_CHECK on SCHEDULE (R150). ERRCODE, LAST_OP and DONE keep their values. -/
def State.issue (v : Word) (s : State) : State :=
  { s with
    cmdreg := v
    busy := true
    schedValid :=
      match decode v with
      | .command .schedule => false
      | .command .zeroize => false
      | _ => s.schedValid
    ksPhase :=
      match decode v with
      | .command .schedule => .check
      | _ => s.ksPhase }

/-- The completion writes of R342 with code `e`, and the sequencing registers back at rest (R53, R54, R150; log 16). -/
def State.complete (e : ErrCode) (s : State) : State :=
  { s with
    errcode := e
    lastOp := s.cmdreg.extractLsb' 0 8
    busy := false
    done := true
    ksPhase := .idle
    ksIdx := 0#10
    rnd := 0#5
    blkIdx := 0#11 }

/-- What a command that used the datapath leaves in XL and XR: their "value between commands is unspecified" (R51), a free
value for each (log 8). A command that did not use it leaves them as they were (log 8). -/
def State.spendDatapath (s : State) : State :=
  { s with
    xl := Config.idleHalf s.draws
    xr := Config.idleHalf (s.draws + 1)
    draws := s.draws + 2 }

/-- A word decode maps to ILLEGAL completes with ILLEGAL_CMD and changes nothing else (R322). -/
def State.completeIllegal (s : State) : State := s.complete .illegalCmd

/-- Power-on reset (R380): the engine's state takes the "after reset" column of R58. The parameters, the host agent, the
interleaving and the count of draws are no part of the engine and stay (log 18). -/
def State.powerOnReset (s : State) : State :=
  { State.resetWith s.params with
    draws := s.draws
    program := s.program
    reads := s.reads
    turns := s.turns }

end Sys2Proof.Machine
end

