-- ==== Sys2Proof/Machine/Operands.lean ====
section
/-! DEFINITION. The operands of the commands: the fixed registers and buffers each one reads when it runs
(spec/30_encoding.md R122, spec/20_memory.md R98). -/

namespace Sys2Proof.Machine

/-- CONFIG.MODE, bits 1:0; `none` is the reserved value 3 (R42). -/
def State.mode? (s : State) : Option Mode :=
  let m := s.config.extractLsb' 0 2
  if m = 0#2 then some .ecb
  else if m = 1#2 then some .cbc
  else if m = 2#2 then some .cfb
  else none

/-- CONFIG.PAD, bits 3:2; `none` is the reserved value 3 (R42). -/
def State.pad? (s : State) : Option Pad :=
  let p := s.config.extractLsb' 2 2
  if p = 0#2 then some .none
  else if p = 1#2 then some .zero
  else if p = 2#2 then some .pkcs7
  else none

/-- CBC and CFB take an IV; ECB reads neither IV nor IVLEN (R35, R44). -/
def usesIv : Mode → Bool
  | .ecb => false
  | .cbc => true
  | .cfb => true

/-- ECB and CBC work on whole blocks and apply the padding unit; CFB does not (R247, R281). -/
def blockAligned : Mode → Bool
  | .ecb => true
  | .cbc => true
  | .cfb => false

/-- KEY[0..KEYLEN-1], SCHEDULE's operand; `none` if one of its bytes is undef (R38, R151). -/
def State.keyBytes (s : State) : Option (List Byte) := s.bufBytes .key s.keylen.toNat

/-- IV[0..7] as a block, for a mode that uses it; the zero block for ECB, which never reads IV (R35). `none` if a byte is
undef (R271). -/
def State.ivBlock (m : Mode) (s : State) : Option Block :=
  if usesIv m then (s.bufBytes .iv Config.ivBytes).map blockOfBytes else some Block.zero

/-- The message IN[0..MSGLEN) (R271); `none` if a byte is undef. -/
def State.message (s : State) : Option (List Byte) := s.bufBytes .inp s.msglen.toNat

/-- The data operands of ENCRYPT and DECRYPT, the IV block and the message; `none` if the command would consume an undef
byte (R38, R271). -/
def State.passInput (m : Mode) (s : State) : Option (Block × List Byte) :=
  match s.ivBlock m, s.message with
  | some iv, some msg => some (iv, msg)
  | _, _ => none

/-- BLK_L, BLK_R as a block, the operand of ENCBLK and DECBLK (R49). -/
def State.blk (s : State) : Block := ⟨s.blkL, s.blkR⟩

end Sys2Proof.Machine
end

