-- ==== Sys2Proof/Machine/Flags.lean ====
section
/-! DEFINITION. The flags: the codes of ERRCODE (spec/60_exceptions.md R345), the STATUS word and the interrupt output
(spec/10_state.md R41, R48), and the checks that decide a command's error, in their order (R346). The block core's
arithmetic sets no flag (R209). -/

namespace Sys2Proof.Machine

/-- The four bits of ERRCODE (R345). -/
def errBits : ErrCode → BitVec 4
  | .ok => 0#4
  | .keySize => 1#4
  | .ivSize => 2#4
  | .dataLength => 3#4
  | .padding => 4#4
  | .noSchedule => 5#4
  | .illegalCmd => 6#4
  | .badConfig => 7#4
  | .msgTooLong => 8#4

/-- One bit. -/
def bit (b : Bool) : BitVec 1 := BitVec.ofBool b

/-- The word a read of STATUS returns (R41, R92): LAST_OP in 15:8, ERRCODE in 7:4, a reserved 0, OVERRUN, SCHED_VALID,
BUSY. -/
def State.statusWord (s : State) : Word :=
  0#16 ++ s.lastOp ++ errBits s.errcode ++ 0#1 ++ bit s.overrun ++ bit s.schedValid ++ bit s.busy

/-- CONFIG.IRQ_EN, bit 8 (R42). -/
def State.irqEn (s : State) : Bool := s.config.getLsbD 8

/-- The level-sensitive interrupt output: IRQ_EN and DONE (R48, R350). It is not state. -/
def State.irq (s : State) : Bool := s.irqEn && s.done

/-- The accepted key lengths, 4 to 56 inclusive (R152). -/
def State.keyLengthOk (s : State) : Bool :=
  decide (Config.keyMin ≤ s.keylen.toNat) && decide (s.keylen.toNat ≤ Config.keyMax)

/-- R346, `Checks(ENCRYPT or DECRYPT)`: the first failing check in the order BAD_CONFIG, NO_SCHEDULE, IV_SIZE, MSG_TOO_LONG,
DATA_LENGTH; or the mode and padding the data pass runs with. -/
def State.checks (d : Dir) (s : State) : Except ErrCode (Mode × Pad) :=
  match s.mode?, s.pad? with
  | some m, some p =>
    if s.schedValid = false then .error .noSchedule
    else if usesIv m = true ∧ s.ivlen ≠ 8#4 then .error .ivSize
    else if s.params.msgMax < s.msglen.toNat then .error .msgTooLong
    else if blockAligned m = true ∧ s.msglen.toNat % 8 ≠ 0 ∧ (d = .decrypt ∨ p = .none) then .error .dataLength
    else .ok (m, p)
  | _, _ => .error .badConfig

end Sys2Proof.Machine
end

