-- ==== Sys2Proof/Machine/Bus.lean ====
section
/-! DEFINITION. The host window (spec/20_memory.md): where an offset leads (R81), what a read returns (R84, R86 to R89,
R92), what a write does (R86, R87, R90, R91), and the step of the host agent (R85, R93, R126). -/

namespace Sys2Proof.Machine

/-- What stands at an offset of the window (R81). -/
inductive Loc where
  | id
  | cmd
  | status
  | config
  | keylen
  | ivlen
  | msglen
  | outlen
  | irqStatus
  | blkL
  | blkR
  /-- word `j` of KEY -/
  | key (j : Nat)
  /-- word `j` of IV -/
  | iv (j : Nat)
  /-- P[i] -/
  | pwin (i : Nat)
  /-- St[i] -/
  | swin (t i : Nat)
  /-- word `j` of INWIN -/
  | inwin (j : Nat)
  /-- word `j` of OUTWIN -/
  | outwin (j : Nat)
  | reserved
  deriving DecidableEq, Repr

/-- The register map of R81, for an aligned offset `o`. -/
def locateNat (o : Nat) : Loc :=
  if o = 0x000 then .id
  else if o = 0x004 then .cmd
  else if o = 0x008 then .status
  else if o = 0x00C then .config
  else if o = 0x010 then .keylen
  else if o = 0x014 then .ivlen
  else if o = 0x018 then .msglen
  else if o = 0x01C then .outlen
  else if o = 0x020 then .irqStatus
  else if o = 0x024 then .blkL
  else if o = 0x028 then .blkR
  else if 0x040 ≤ o ∧ o ≤ 0x074 then .key ((o - 0x040) / 4)
  else if 0x080 ≤ o ∧ o ≤ 0x084 then .iv ((o - 0x080) / 4)
  else if 0x100 ≤ o ∧ o ≤ 0x144 then .pwin ((o - 0x100) / 4)
  else if 0x1000 ≤ o ∧ o ≤ 0x1FFC then .swin ((o - 0x1000) / 0x400) ((o - 0x1000) % 0x400 / 4)
  else if 0x4000 ≤ o ∧ o ≤ 0x7FFC then .inwin ((o - 0x4000) / 4)
  else if 0x8000 ≤ o ∧ o ≤ 0xBFFC then .outwin ((o - 0x8000) / 4)
  else .reserved

/-- What an access at `off` reaches (R81). -/
def locate (off : Offset) : Loc := locateNat off.toNat

/-- The writable bits of CONFIG (R91). -/
def configMask : Word := 0x0000010F#32

/-- The word of a buffer from byte `i` on (R84); `none`, a draw, if one of its bytes is undef (R38). -/
def State.bufWord (s : State) (b : Buf) (i : Nat) : Option Word :=
  (Memory.readRange s.mem (b.base + i) 4).map (fun bs => wordAt bs 0)

/-- While BUSY the read returns a draw, `none` (R89). -/
def State.whileIdle (s : State) (v : Option Word) : Option Word := if s.busy then none else v

/-- A read of a table word through PWIN or SWIN (R88). -/
def State.readback (s : State) (v : Word) : Option Word :=
  if s.params.schedReadback = false then some 0#32
  else if s.busy then none
  else if s.schedValid = false then some 0#32
  else some v

/-- What a read at an aligned offset returns (R86 to R89, R92); `none` is a draw. -/
def State.busRead (off : Offset) (s : State) : Option Word :=
  match locate off with
  | .id => some Config.idWord
  | .cmd => some 0#32
  | .status => some s.statusWord
  | .config => some (s.config &&& configMask)
  | .keylen => some (s.keylen.setWidth 32)
  | .ivlen => some (s.ivlen.setWidth 32)
  | .msglen => some (s.msglen.setWidth 32)
  | .outlen => s.whileIdle (some (s.outlen.setWidth 32))
  | .irqStatus => some ((bit s.done).setWidth 32)
  | .blkL => s.whileIdle (some s.blkL)
  | .blkR => s.whileIdle (some s.blkR)
  | .key _ => some 0#32
  | .iv j => s.whileIdle (s.bufWord .iv (4 * j))
  | .pwin i => s.readback (s.sched.pAt i)
  | .swin t i => s.readback (s.sched.sAt t i)
  | .inwin j => s.whileIdle (if 4 * j < Buf.size s.params .inp then s.bufWord .inp (4 * j) else some 0#32)
  | .outwin j => s.whileIdle (if 4 * j < Buf.size s.params .out then s.bufWord .out (4 * j) else some 0#32)
  | .reserved => some 0#32

/-- The value a host read sees, and the state after it: a draw takes the next free value (R12), and nothing else changes
(R92). -/
def State.hostRead (off : Offset) (s : State) : Word × State :=
  match s.busRead off with
  | some v => (v, s)
  | none => (Config.draw s.draws, { s with draws := s.draws + 1 })

/-- A write to a command's input: accepted while idle, dropped with OVERRUN while BUSY (R90, R91). -/
def State.whenIdle (s s' : State) : State := if s.busy then { s with overrun := true } else s'

/-- A host write of `v` at an aligned offset (R86, R87, R90, R91). -/
def State.hostWrite (off : Offset) (v : Word) (s : State) : State :=
  match locate off with
  | .id => s
  | .cmd => s.whenIdle (s.issue v)
  | .status => s
  | .config => s.whenIdle { s with config := v &&& configMask }
  | .keylen => s.whenIdle { s with keylen := v.extractLsb' 0 6 }
  | .ivlen => s.whenIdle { s with ivlen := v.extractLsb' 0 4 }
  | .msglen => s.whenIdle { s with msglen := v.extractLsb' 0 16 }
  | .outlen => s
  | .irqStatus => if v.getLsbD 0 then { s with done := false } else s
  | .blkL => s.whenIdle { s with blkL := v }
  | .blkR => s.whenIdle { s with blkR := v }
  | .key j => s.whenIdle (s.bufWrite .key (4 * j) (wordBytes v))
  | .iv j => s.whenIdle (s.bufWrite .iv (4 * j) (wordBytes v))
  | .pwin _ => s
  | .swin _ _ => s
  | .inwin j => if 4 * j < Buf.size s.params .inp then s.whenIdle (s.bufWrite .inp (4 * j) (wordBytes v)) else s
  | .outwin _ => s
  | .reserved => s

/-- A host read, with its value recorded for the host. -/
def State.hostLoad (off : Offset) (s : State) : Word × State :=
  let (v, s') := s.hostRead off
  (v, { s' with reads := (off, v) :: s'.reads })

/-- One step of the host agent (R14, R93): the next operation of its program. An access R85 does not define is refused. A
`wait` reads STATUS and is over when BUSY reads 0 (R127). With no program left the host has nothing to do. -/
def hostStep (s : State) : Host.Outcome State Fault Refusal :=
  match s.program with
  | [] => .next s
  | .wait :: rest =>
    let (v, s') := s.hostLoad 0x008#16
    .next (if v.getLsbD 0 then s' else { s' with program := rest })
  | .access width off op :: rest =>
    if HostOp.wf (.access width off op) then
      match op with
      | .read => .next { (s.hostLoad off).2 with program := rest }
      | .write v => .next { s.hostWrite off v with program := rest }
    else .refused (.undefinedAccess width off)

end Sys2Proof.Machine
end

