-- ==== Sys2Proof/Machine/Control.lean ====
section
/-! DEFINITION. The control commands NOP, CLRERR and ZEROIZE (spec/46_control.md). -/

namespace Sys2Proof.Machine

/-- NOP (R320): result OK, nothing else. -/
def execNop (s : State) : Host.Outcome State Fault Refusal := .next (s.complete .ok)

/-- CLRERR (R321): the clear of OVERRUN takes effect at completion. -/
def execClrerr (s : State) : Host.Outcome State Fault Refusal :=
  .next ({ s with overrun := false }.complete .ok)

/-- What ZEROIZE erases (R323). CONFIG, KEYLEN, IVLEN, MSGLEN and FAULT_UNDEF keep their values. -/
def State.zeroize (s : State) : State :=
  { ((((s.bufClear .key).bufClear .iv).bufClear .inp).bufClear .out) with
    sched := Schedule.zero
    outlen := 0#16
    blkL := 0#32
    blkR := 0#32
    chain := Block.zero
    overrun := false
    schedValid := false }

/-- ZEROIZE (R323). -/
def execZeroize (s : State) : Host.Outcome State Fault Refusal := .next (s.zeroize.complete .ok)

end Sys2Proof.Machine
end

