-- ==== Sys2Proof/Machine/BlockCore.lean ====
section
/-! DEFINITION. The block cipher core (spec/43_block_core.md) and the commands ENCBLK and DECBLK. The whitening pairing is
the corrected one of spec/90_conflicts.md C2. -/

namespace Sys2Proof.Machine

/-- The F function (R200): `((S0[a] +32 S1[b]) ^ S2[c]) +32 S3[d]`, a the most significant byte of x. -/
def feistelF (t : Schedule) (x : Word) : Word :=
  let a := (x.extractLsb' 24 8).toNat
  let b := (x.extractLsb' 16 8).toNat
  let c := (x.extractLsb' 8 8).toNat
  let d := (x.extractLsb' 0 8).toNat
  add32 (add32 (t.sAt 0 a) (t.sAt 1 b) ^^^ t.sAt 2 c) (t.sAt 3 d)

/-- One round with round word `k`; no swap after the 16th, `i = 15` (R202, R206). -/
def feistelRound (t : Schedule) (k : Word) (i : Nat) (b : Block) : Block :=
  let l := b.l ^^^ k
  let r := b.r ^^^ feistelF t l
  if i < 15 then ⟨r, l⟩ else ⟨l, r⟩

/-- Round i of EncryptBlock reads P[i] (R202). -/
def encRound (t : Schedule) (b : Block) (i : Nat) : Block := feistelRound t (t.pAt i) i b

/-- The whitening step of EncryptBlock: `R ^ P[16]`, `L ^ P[17]` (R202). -/
def encWhiten (t : Schedule) (b : Block) : Block := ⟨b.l ^^^ t.pAt 17, b.r ^^^ t.pAt 16⟩

/-- EncryptBlock (R202). -/
def encryptBlock (t : Schedule) (b : Block) : Block :=
  encWhiten t ((List.range Config.rounds).foldl (encRound t) b)

/-- Round i of DecryptBlock reads P[17 - i] (R206). -/
def decRound (t : Schedule) (b : Block) (i : Nat) : Block := feistelRound t (t.pAt (17 - i)) i b

/-- The whitening step of DecryptBlock: `R ^ P[1]`, `L ^ P[0]` (R206). -/
def decWhiten (t : Schedule) (b : Block) : Block := ⟨b.l ^^^ t.pAt 0, b.r ^^^ t.pAt 1⟩

/-- DecryptBlock (R206). -/
def decryptBlock (t : Schedule) (b : Block) : Block :=
  decWhiten t ((List.range Config.rounds).foldl (decRound t) b)

/-- ENCBLK and DECBLK share everything but the transform (R204, R205): NO_SCHEDULE without a valid schedule, else BLK in
place. -/
def State.transformBlk (f : Schedule → Block → Block) (s : State) : State :=
  if s.schedValid = false then s.complete .noSchedule
  else
    let b := f s.sched s.blk
    { s.spendDatapath with blkL := b.l, blkR := b.r }.complete .ok

/-- ENCBLK (R204). -/
def execEncblk (s : State) : Host.Outcome State Fault Refusal := .next (s.transformBlk encryptBlock)

/-- DECBLK (R205). -/
def execDecblk (s : State) : Host.Outcome State Fault Refusal := .next (s.transformBlk decryptBlock)

end Sys2Proof.Machine
end

