-- ==== Sys2Proof/Machine/KeySchedule.lean ====
section
/-! DEFINITION. The key schedule (spec/41_key_schedule.md) and the command SCHEDULE. -/

namespace Sys2Proof.Machine

/-- The key word of P[i]: bytes `(4i + m) mod n` of the key, big-endian (R82, R154). -/
def keyWord (k : List Byte) (i : Nat) : Word :=
  let n := k.length
  be32 (byteAt k ((4 * i) % n)) (byteAt k ((4 * i + 1) % n)) (byteAt k ((4 * i + 2) % n)) (byteAt k ((4 * i + 3) % n))

/-- Step i of KS_XOR: `P[i] <- P[i] ^ w` (R154). -/
def ksXorStep (k : List Byte) (t : Schedule) (i : Nat) : Schedule := t.setP i (t.pAt i ^^^ keyWord k i)

/-- KS_XOR (R154). -/
def ksXor (k : List Byte) (t : Schedule) : Schedule := (List.range Config.pWords).foldl (ksXorStep k) t

/-- Where step k of KS_ENC stores its block (R156): P[2k], P[2k+1] for k < 9, then two words of St. -/
def ksStore (t : Schedule) (k : Nat) (b : Block) : Schedule :=
  if k < 9 then (t.setP (2 * k) b.l).setP (2 * k + 1) b.r
  else
    let tab := (k - 9) / 128
    let j := 2 * ((k - 9) % 128)
    (t.setS tab j b.l).setS tab (j + 1) b.r

/-- Step k of KS_ENC (R156): encrypt (XL, XR) under the tables as they now are (R157), then store. -/
def ksEncStep (x : Schedule × Block) (k : Nat) : Schedule × Block :=
  let b := encryptBlock x.1 x.2
  (ksStore x.1 k b, b)

/-- KS_ENC from (0, 0) (R155, R156): the tables and the last block. -/
def ksEnc (t : Schedule) : Schedule × Block :=
  (List.range Config.ksEncryptions).foldl ksEncStep (t, Block.zero)

/-- `Derive` (R163): KS_INIT, KS_XOR and KS_ENC on a fresh copy of the constants. -/
def derive (k : List Byte) : Schedule := (ksEnc (ksXor k piSchedule)).1

/-- Tables of free words: what a SCHEDULE that consumed an undef byte leaves (R38; log 11). -/
def undefSchedule (n : Nat) : Schedule where
  p := Vector.ofFn (fun i => Config.undefTableWord n i.val)
  sbox := Vector.ofFn (fun k => Vector.ofFn (fun j => Config.undefTableWord n (18 + 256 * k.val + j.val)))

/-- A SCHEDULE that would consume an undef key byte (R38, R151): FAULT_UNDEF is set and the command "has no defined result":
P, S, SCHED_VALID and ERRCODE are free and KEY is undef. The command still completes (R344; log 11). -/
def State.scheduleUndef (s : State) : State :=
  { s.spendDatapath.bufUndef .key with
    faultUndef := true
    sched := undefSchedule s.draws
    schedValid := Config.undefSchedValid s.draws }.complete (Config.undefErrCode s.draws)

/-- A SCHEDULE of the key `k` (R151, R153 to R158): P and S derived, KEY zeroized, SCHED_VALID set. -/
def State.scheduleKey (k : List Byte) (s : State) : State :=
  { s.spendDatapath.bufClear .key with sched := derive k, schedValid := true }.complete .ok

/-- A SCHEDULE that fails KS_CHECK (R152, R158): KEY zeroized, P and S as they were, SCHED_VALID as the issue left it. -/
def State.scheduleKeySize (s : State) : State := (s.bufClear .key).complete .keySize

/-- SCHEDULE (R151). -/
def execSchedule (s : State) : Host.Outcome State Fault Refusal :=
  .next (if s.keyLengthOk = false then s.scheduleKeySize
    else match s.keyBytes with
      | none => s.scheduleUndef
      | some k => s.scheduleKey k)

end Sys2Proof.Machine
end

