-- ==== Sys2Proof/Machine/Padding.lean ====
section
/-! DEFINITION. The padding unit (spec/44_padding.md): `Pad` and `Unpad` for none, zero and pkcs7. -/

namespace Sys2Proof.Machine

/-- `Pad_none` (R241). -/
def padNone (m : List Byte) : Except ErrCode (List Byte) :=
  if m.length % 8 ≠ 0 then .error .dataLength else .ok m

/-- `Pad_zero` (R242); `z` is ZERO_PAD_ALIGNED. -/
def padZero (z : ZeroPadAligned) (m : List Byte) : List Byte :=
  let r := m.length % 8
  if r ≠ 0 then m ++ zeros (8 - r)
  else if m.length = 0 then m
  else match z with
    | .full => m ++ zeros 8
    | .none => m

/-- `Unpad_zero` (R243): every trailing 0x00 byte goes. -/
def unpadZero (q : List Byte) : List Byte := (q.reverse.dropWhile (fun b => b = 0#8)).reverse

/-- `Pad_pkcs7` (R245): n bytes of value n, n = 8 - (len mod 8). -/
def padPkcs7 (m : List Byte) : List Byte :=
  let n := 8 - m.length % 8
  m ++ List.replicate n (BitVec.ofNat 8 n)

/-- `Unpad_pkcs7` (R246). -/
def unpadPkcs7 (q : List Byte) : Except ErrCode (List Byte) :=
  if q.length = 0 then .error .padding
  else
    let last := byteAt q (q.length - 1)
    let n := last.toNat
    if n < 1 ∨ 8 < n ∨ q.length < n then .error .padding
    else if (q.drop (q.length - n)).all (fun b => b = last) then .ok (q.take (q.length - n))
    else .error .padding

/-- `Pad(PAD, m)` (R240). -/
def padMessage (z : ZeroPadAligned) (p : Pad) (m : List Byte) : Except ErrCode (List Byte) :=
  match p with
  | .none => padNone m
  | .zero => .ok (padZero z m)
  | .pkcs7 => .ok (padPkcs7 m)

/-- `Unpad(PAD, q)` (R240); `Unpad_none` is the identity (R241). -/
def unpadMessage (p : Pad) (q : List Byte) : Except ErrCode (List Byte) :=
  match p with
  | .none => .ok q
  | .zero => .ok (unpadZero q)
  | .pkcs7 => unpadPkcs7 q

end Sys2Proof.Machine
end

