-- ==== Sys2Proof/Machine/Modes.lean ====
section
/-! DEFINITION. The mode controller (spec/45_modes.md) and the commands ENCRYPT and DECRYPT. -/

namespace Sys2Proof.Machine

/-- `E(b) = Bytes(EncryptBlock(P, S, Block(b)))` (45_modes.md, notation). -/
def encBytes (t : Schedule) (b : List Byte) : List Byte := bytesOfBlock (encryptBlock t (blockOfBytes b))

/-- `D(b) = Bytes(DecryptBlock(P, S, Block(b)))` (45_modes.md, notation). -/
def decBytes (t : Schedule) (b : List Byte) : List Byte := bytesOfBlock (decryptBlock t (blockOfBytes b))

/-- `blk_i(q) = q[8i .. min(8i+8, len(q)))`. -/
def blkAt (q : List Byte) (i : Nat) : List Byte := (q.drop (8 * i)).take 8

/-- How many blocks a pass over `q` has: `ceil(len(q)/8)`, which is `len(q)/8` for ECB and CBC. -/
def blockCount (q : List Byte) : Nat := (q.length + 7) / 8

/-- The blocks of `q` in increasing order (R270). -/
def blocksOf (q : List Byte) : List (List Byte) := (List.range (blockCount q)).map (blkAt q)

/-- One block of a pass: from CHAIN and the block's bytes, the output bytes and the new CHAIN. -/
abbrev BlockStep := Block → List Byte → List Byte × Block

/-- A pass (R270): each block in order, CHAIN carried from one to the next; the output bytes and the last CHAIN. -/
def runPass (f : BlockStep) (chain : Block) (bs : List (List Byte)) : List Byte × Block :=
  match bs with
  | [] => ([], chain)
  | b :: rest =>
    let (o, chain') := f chain b
    let (os, chainEnd) := runPass f chain' rest
    (o ++ os, chainEnd)

/-- A block of ECB encryption (R275): no CHAIN. -/
def ecbEncStep (t : Schedule) : BlockStep := fun chain b => (encBytes t b, chain)

/-- A block of ECB decryption (R276). -/
def ecbDecStep (t : Schedule) : BlockStep := fun chain b => (decBytes t b, chain)

/-- A block of CBC encryption (R277): `ci = E(b XOR CHAIN)`, and CHAIN becomes ci. -/
def cbcEncStep (t : Schedule) : BlockStep := fun chain b =>
  let ci := encBytes t (xorBytes b (bytesOfBlock chain))
  (ci, blockOfBytes ci)

/-- A block of CBC decryption (R278): `D(b) XOR CHAIN`, and CHAIN becomes b. -/
def cbcDecStep (t : Schedule) : BlockStep := fun chain b =>
  (xorBytes (decBytes t b) (bytesOfBlock chain), blockOfBytes b)

/-- A block of CFB encryption (R279, R281): `b XOR E(CHAIN)[0..len(b))`; a full block feeds its ciphertext back. -/
def cfbEncStep (t : Schedule) : BlockStep := fun chain b =>
  let ci := xorBytes b (encBytes t (bytesOfBlock chain))
  (ci, if b.length = 8 then blockOfBytes ci else chain)

/-- A block of CFB decryption (R280, R281): the forward transform again; a full block feeds itself back. -/
def cfbDecStep (t : Schedule) : BlockStep := fun chain b =>
  (xorBytes b (encBytes t (bytesOfBlock chain)), if b.length = 8 then blockOfBytes b else chain)

/-- The block step of a mode in a direction. -/
def modeStep (d : Dir) (m : Mode) (t : Schedule) : BlockStep :=
  match d, m with
  | .encrypt, .ecb => ecbEncStep t
  | .encrypt, .cbc => cbcEncStep t
  | .encrypt, .cfb => cfbEncStep t
  | .decrypt, .ecb => ecbDecStep t
  | .decrypt, .cbc => cbcDecStep t
  | .decrypt, .cfb => cfbDecStep t

/-- `ECB_Enc`, `CBC_Enc`, `CFB_Enc`, `ECB_Dec`, `CBC_Dec` or `CFB_Dec` of `q` (R275 to R280). -/
def modePass (d : Dir) (m : Mode) (t : Schedule) (iv : Block) (q : List Byte) : List Byte :=
  (runPass (modeStep d m t) iv (blocksOf q)).1

/-- The bytes the pass runs over (R273, R274): the padded message when ECB or CBC encrypts, else the message itself. -/
def passBytes (d : Dir) (m : Mode) (p : Pad) (z : ZeroPadAligned) (msg : List Byte) : Except ErrCode (List Byte) :=
  match d with
  | .encrypt => if blockAligned m then padMessage z p msg else .ok msg
  | .decrypt => .ok msg

/-- What becomes of the pass's output (R274): unpadded when ECB or CBC decrypts, else itself. -/
def passResult (d : Dir) (m : Mode) (p : Pad) (r : List Byte) : Except ErrCode (List Byte) :=
  match d with
  | .encrypt => .ok r
  | .decrypt => if blockAligned m then unpadMessage p r else .ok r

/-- The data pass of ENCRYPT and DECRYPT (R273, R274): the result, or the error it raises. -/
def cryptMessage (d : Dir) (m : Mode) (p : Pad) (z : ZeroPadAligned) (t : Schedule) (iv : Block) (msg : List Byte) :
    Except ErrCode (List Byte) :=
  match passBytes d m p z msg with
  | .error e => .error e
  | .ok q => passResult d m p (modePass d m t iv q)

/-- The commit on success (R272): OUT holds `r` and zeros after it, OUTLEN its length, CHAIN 0. -/
def State.commit (r : List Byte) (s : State) : State :=
  { s.bufWrite .out 0 (r ++ zeros (Buf.size s.params .out - r.length)) with
    outlen := BitVec.ofNat 16 r.length
    chain := Block.zero }

/-- The commit on an error (R272): OUT all zero, OUTLEN 0, CHAIN 0. -/
def State.commitError (s : State) : State :=
  { s.bufClear .out with outlen := 0#16, chain := Block.zero }

/-- An ENCRYPT or DECRYPT that would consume an undef byte (R38, R271): FAULT_UNDEF is set and the command "has no defined
result": OUT is undef, OUTLEN and ERRCODE are free, CHAIN is 0 (R52). The command still completes (R344; log 12). -/
def State.messageUndef (s : State) : State :=
  { s.spendDatapath.bufUndef .out with
    faultUndef := true
    outlen := Config.undefOutlen s.draws
    chain := Block.zero }.complete (Config.undefErrCode s.draws)

/-- ENCRYPT and DECRYPT after the checks have passed with mode `m` and padding `p`. -/
def State.dataPass (d : Dir) (m : Mode) (p : Pad) (s : State) : State :=
  match s.passInput m with
  | none => s.messageUndef
  | some (iv, msg) =>
    match cryptMessage d m p s.params.zeroPadAligned s.sched iv msg with
    | .ok r => (s.spendDatapath.commit r).complete .ok
    | .error e => s.spendDatapath.commitError.complete e

/-- ENCRYPT and DECRYPT (R273, R274): the checks of R346, then the data pass. -/
def State.cryptCommand (d : Dir) (s : State) : State :=
  match s.checks d with
  | .error e => s.commitError.complete e
  | .ok (m, p) => s.dataPass d m p

/-- ENCRYPT (R273). -/
def execEncrypt (s : State) : Host.Outcome State Fault Refusal := .next (s.cryptCommand .encrypt)

/-- DECRYPT (R274). -/
def execDecrypt (s : State) : Host.Outcome State Fault Refusal := .next (s.cryptCommand .decrypt)

end Sys2Proof.Machine
end

