-- ==== Sys2Proof/Machine/Dispatch.lean ====
section
/-! DEFINITION. The completion step of each command (spec/60_exceptions.md R342): one arm per constructor of Instr. -/

namespace Sys2Proof.Machine

/-- Run command `i` and complete it. -/
def exec (i : Instr) (s : State) : Host.Outcome State Fault Refusal :=
  match i with
  | .nop => Sys2Proof.Machine.execNop s
  | .schedule => Sys2Proof.Machine.execSchedule s
  | .encrypt => Sys2Proof.Machine.execEncrypt s
  | .decrypt => Sys2Proof.Machine.execDecrypt s
  | .encblk => Sys2Proof.Machine.execEncblk s
  | .decblk => Sys2Proof.Machine.execDecblk s
  | .clrerr => Sys2Proof.Machine.execClrerr s
  | .zeroize => Sys2Proof.Machine.execZeroize s

end Sys2Proof.Machine
end

