-- ==== Sys2Proof/Machine/Sequencer.lean ====
section
/-! DEFINITION. The engine's internal steps inside a running command, which no host read can show: the key-schedule
sequencer (spec/41_key_schedule.md R150), the block core's rounds (spec/43_block_core.md R203) and the mode controller's
blocks (spec/45_modes.md R270). The completion step gives the same result however many of them came before it (R150,
R203). -/

namespace Sys2Proof.Machine

/-- The next phase of the sequencer, its index back at 0. R150 writes KS_IDX <- 0 on the entries to KS_INIT, KS_XOR and KS_ENC;
that the entry to KS_DONE writes it too, where R150 says nothing and R158 clears it at completion, is the model's (DESIGN
CHOICE, unsafe for a claim about KS_IDX inside KS_DONE; log 13). -/
def State.ksPhaseTo (p : KsPhase) (s : State) : State := { s with ksPhase := p, ksIdx := 0#10 }

/-- One step of KS_XOR (R154); after the 18th, KS_ENC starts with (XL, XR) = (0, 0) (R155). -/
def State.ksXorTick (k : List Byte) (s : State) : State :=
  let s' := { s with sched := ksXorStep k s.sched s.ksIdx.toNat }
  if s.ksIdx.toNat < 17 then { s' with ksIdx := s.ksIdx + 1#10 }
  else { s' with xl := 0#32, xr := 0#32 }.ksPhaseTo .enc

/-- One step of KS_ENC (R156); after step 520, KS_DONE, with KS_IDX at 0 already there (DESIGN CHOICE; log 13). -/
def State.ksEncTick (s : State) : State :=
  let (t, b) := ksEncStep (s.sched, ⟨s.xl, s.xr⟩) s.ksIdx.toNat
  let s' := { s with sched := t, xl := b.l, xr := b.r }
  if s.ksIdx.toNat < 520 then { s' with ksIdx := s.ksIdx + 1#10 } else s'.ksPhaseTo .done

/-- One step of the key-schedule sequencer (R150). KS_INIT's 1042 table writes are one step, since KS_IDX has 10 bits
(log 13). With an undef key byte the rule stops in KS_CHECK (R151). -/
def State.ksTick (s : State) : State :=
  match s.ksPhase with
  | .idle => s
  | .check =>
    if s.keyLengthOk = false then s.ksPhaseTo .done
    else match s.keyBytes with
      | none => s
      | some _ => s.ksPhaseTo .init
  | .init => { s with sched := piSchedule }.ksPhaseTo .xor
  | .xor =>
    match s.keyBytes with
    | none => s
    | some k => s.ksXorTick k
  | .enc => s.ksEncTick
  | .done => s

/-- One step of the block core under ENCBLK or DECBLK (R203): round RND on (XL, XR), which round 0 loads from BLK. The
whitening step, RND = 16, is the completion step's. -/
def State.coreTick (round : Schedule → Block → Nat → Block) (s : State) : State :=
  if s.schedValid = false then s
  else if s.rnd.toNat < 16 then
    let b := if s.rnd = 0#5 then s.blk else ⟨s.xl, s.xr⟩
    let b' := round s.sched b s.rnd.toNat
    { s with xl := b'.l, xr := b'.r, rnd := s.rnd + 1#5 }
  else s

/-- One block of the mode controller under ENCRYPT or DECRYPT (R270, R282): block BLK_IDX, CHAIN loaded from IV at the first
and updated after each. OUT is written by the completion step only, so that a failing command has made no success write
(R272, R347). BLK_IDX goes up to MSG_MAX/8 (R54); a block of padding past that is the completion step's. The block's
transform is collapsed into this one step (R203, D21), so its rounds are not seen: XL, XR and RND stay as they were from the
command's issue to its completion, where R51 and R54 leave open what they hold between two blocks of a pass (DESIGN CHOICE,
unsafe for a claim about XL, XR or RND inside a pass; log 14). -/
def State.modeTick (d : Dir) (s : State) : State :=
  match s.checks d with
  | .error _ => s
  | .ok (m, p) =>
    match s.passInput m with
    | none => s
    | some (iv, msg) =>
      match passBytes d m p s.params.zeroPadAligned msg with
      | .error _ => s
      | .ok q =>
        let i := s.blkIdx.toNat
        if i < blockCount q ∧ i < s.params.msgMax / 8 then
          let chain := if i = 0 then iv else s.chain
          { s with chain := (modeStep d m s.sched chain (blkAt q i)).2, blkIdx := s.blkIdx + 1#11 }
        else s

/-- One internal step of the running command. -/
def State.tick (s : State) : State :=
  match decode s.cmdreg with
  | .command .nop => s
  | .command .schedule => s.ksTick
  | .command .encrypt => s.modeTick .encrypt
  | .command .decrypt => s.modeTick .decrypt
  | .command .encblk => s.coreTick encRound
  | .command .decblk => s.coreTick decRound
  | .command .clrerr => s
  | .command .zeroize => s
  | .illegal _ => s

/-- `n` internal steps of the running command. -/
def State.ticks (n : Nat) (s : State) : State :=
  match n with
  | 0 => s
  | n + 1 => State.ticks n s.tick

end Sys2Proof.Machine
end

