-- ==== Sys2Proof/Machine/Engine.lean ====
section
/-! DEFINITION. The agents' steps: the engine's completion step (spec/60_exceptions.md R342), its internal steps, reset
(spec/70_reset_and_hazards.md R380), and who moves next (spec/00_scope.md R14). -/

namespace Sys2Proof.Machine

/-- The completion step (R342): the rule of `decode(CMDREG)`, with its completion writes. -/
def completionStep (s : State) : Host.Outcome State Fault Refusal :=
  match decode s.cmdreg with
  | .command i => exec i s
  | .illegal _ => .next s.completeIllegal

/-- One step of the agent whose turn it is. The engine has a step only while BUSY = 1 (R340, R342). -/
def takeTurn (t : Turn) (s : State) : Host.Outcome State Fault Refusal :=
  match t with
  | .host => hostStep s
  | .sequencer => .next (if s.busy then s.tick else s)
  | .completion => if s.busy then completionStep s else .next s
  | .reset => .next s.powerOnReset

/-- Who moves when the interleaving says nothing: the engine completes what is running, else the host goes on (log 4). -/
def State.defaultTurn (s : State) : Turn := if s.busy then .completion else .host

/-- The next turn, and the state with that turn taken off the interleaving. -/
def State.nextTurn (s : State) : Turn × State :=
  match s.turns with
  | [] => (s.defaultTurn, s)
  | t :: rest => (t, { s with turns := rest })

end Sys2Proof.Machine
end

