-- ==== Sys2Proof/Machine/Step.lean ====
section
/-! DEFINITION. One step of the machine, and how a command word comes to be run next. -/

namespace Sys2Proof.Machine

/-- One step: the agent whose turn it is moves (R14). -/
def step (s : State) : Host.Outcome State Fault Refusal := takeTurn s.nextTurn.1 s.nextTurn.2

/-- `s` with the command word `w` issued (R341) and the engine's completion step next (log 17). The engine has no program
counter and fetches nothing (R56): the word it runs is the one CMDREG holds. -/
def State.withFetchWord (s : State) (nbits w : Nat) : State :=
  { s.issue (BitVec.ofNat 32 (w % 2 ^ nbits)) with turns := .completion :: s.turns }

end Sys2Proof.Machine
end

