-- ==== Sys2Proof/Machine/HostAsm.lean ====
section
/-! DEFINITION. The expansions of the host assembly's pseudo-instructions into bus transactions (spec/30_encoding.md
R127). -/

namespace Sys2Proof.Machine

/-- The two bits of MODE (R42). -/
def modeBits : Mode → Word
  | .ecb => 0#32
  | .cbc => 1#32
  | .cfb => 2#32

/-- The two bits of PAD (R42). -/
def padBits : Pad → Word
  | .none => 0#32
  | .zero => 1#32
  | .pkcs7 => 2#32

/-- `setcfg`'s word: `(PAD << 2) | MODE` (R127). -/
def configWord (m : Mode) (p : Pad) : Word := (padBits p <<< 2) ||| modeBits m

/-- How many words cover `n` bytes. -/
def wordCount (n : Nat) : Nat := (n + 3) / 4

/-- The offset of word `j` of a transfer from `base`. -/
def wordOffset (base : Offset) (j : Nat) : Offset := BitVec.ofNat 16 (base.toNat + 4 * j)

/-- The expansion of each pseudo-instruction (R127). A final partial word of `wrbuf` is completed with 0x00 bytes, which is
what `byteAt` gives past the end. -/
def expandPseudo : Pseudo → List HostOp
  | .command i => [.wr 0x004#16 (encode i)]
  | .wait => [.wait]
  | .wrbuf base bytes =>
    (List.range (wordCount bytes.length)).map (fun j => .wr (wordOffset base j) (wordAt bytes (4 * j)))
  | .setcfg m p => [.wr 0x00C#16 (configWord m p)]
  | .rdbuf base n => (List.range (wordCount n)).map (fun j => .rd (wordOffset base j))

/-- The bus transactions of a program with pseudo-instructions. -/
def assemble (ps : List Pseudo) : List HostOp := ps.flatMap expandPseudo

/-- What `rdbuf BASE, N -> NAME` names: the first N bytes of the big-endian unpacking of the words read (R127), the words
in the order they were read. -/
def rdbufBytes (n : Nat) (words : List Word) : List Byte := (words.flatMap wordBytes).take n

end Sys2Proof.Machine
end

