-- ==== Sys2Proof/Safety.lean ====
section
/-! DEFINITION. The terms claims use: what a completion leaves (spec/60_exceptions.md R342), what a command never touches,
and the invariants of the machine. A claim about a command's result takes "FAULT_UNDEF = 0 and no refusal" as premises
(R358), which here is a premise that its operands are defined. -/

namespace Sys2Proof.Machine

/-- The completion writes of R342, with code `e`. -/
def CompletedWith (e : ErrCode) (s t : State) : Prop :=
  t.errcode = e ∧ t.lastOp = s.cmdreg.extractLsb' 0 8 ∧ t.busy = false ∧ t.done = true

/-- The sequencing registers outside a command: KS_PHASE and KS_IDX by R53; that RND and BLK_IDX are 0 there is read from
R54 by inference (DEDUCED, log 16). -/
def AtRest (t : State) : Prop :=
  t.ksPhase = .idle ∧ t.ksIdx = 0#10 ∧ t.rnd = 0#5 ∧ t.blkIdx = 0#11

/-- What no command writes: the parameters, the settings registers (R122), the host agent and the interleaving; and CMDREG,
whose value between commands R50 leaves unspecified and the model keeps (DESIGN CHOICE, log 7). -/
def KeepsSettings (s t : State) : Prop :=
  t.params = s.params ∧ t.config = s.config ∧ t.keylen = s.keylen ∧ t.ivlen = s.ivlen ∧ t.msglen = s.msglen ∧
    t.cmdreg = s.cmdreg ∧ t.program = s.program ∧ t.reads = s.reads ∧ t.turns = s.turns

/-- P, S0..S3 and SCHED_VALID are as they were. -/
def KeepsSchedule (s t : State) : Prop := t.sched = s.sched ∧ t.schedValid = s.schedValid

/-- BLK_L and BLK_R are as they were. -/
def KeepsBlk (s t : State) : Prop := t.blkL = s.blkL ∧ t.blkR = s.blkR

/-- XL, XR and CHAIN are as they were. For XL and XR, whose value between commands R51 leaves unspecified, this is the
model's choice for a command that does not use the datapath (DESIGN CHOICE, log 8). -/
def KeepsDatapath (s t : State) : Prop := t.xl = s.xl ∧ t.xr = s.xr ∧ t.chain = s.chain

/-- Address `a` is a byte of buffer `b` in the window of an engine with parameters `c`. -/
def InBuf (c : Params) (b : Buf) (a : Nat) : Prop := b.base ≤ a ∧ a < b.base + b.size c

/-- Every byte of memory reads as before. -/
def KeepsMemory (s t : State) : Prop := ∀ a, Memory.read t.mem a = Memory.read s.mem a

/-- Every byte of memory outside buffer `b` reads as before. -/
def KeepsMemoryOutside (b : Buf) (s t : State) : Prop :=
  ∀ a, ¬ InBuf s.params b a → Memory.read t.mem a = Memory.read s.mem a

/-- Buffer `b` holds `r` and then 0x00 to its end. -/
def BufHolds (b : Buf) (r : List Byte) (t : State) : Prop :=
  ∀ i, i < b.size t.params → t.bufRead b i = some (r.getD i 0#8)

/-- A run so far has consumed no undef byte (R358). -/
def FaultFree (s : State) : Prop := s.faultUndef = false

/-- R10, R83: an eight-byte block is packed big-endian, its first byte in bits 31:24 of L and its fifth in bits 31:24 of R, and
its bytes are unpacked in the same order; and the `E` and `D` of the mode equations are EncryptBlock and DecryptBlock between
the two. -/
def BlockPacking (t : Schedule) : Prop :=
  (∀ b0 b1 b2 b3 b4 b5 b6 b7 : Byte,
    blockOfBytes [b0, b1, b2, b3, b4, b5, b6, b7] = ⟨b0 ++ b1 ++ b2 ++ b3, b4 ++ b5 ++ b6 ++ b7⟩) ∧
  (∀ b : Block, bytesOfBlock b =
    [b.l.extractLsb' 24 8, b.l.extractLsb' 16 8, b.l.extractLsb' 8 8, b.l.extractLsb' 0 8,
     b.r.extractLsb' 24 8, b.r.extractLsb' 16 8, b.r.extractLsb' 8 8, b.r.extractLsb' 0 8]) ∧
  (∀ bs, encBytes t bs = bytesOfBlock (encryptBlock t (blockOfBytes bs))) ∧
  (∀ bs, decBytes t bs = bytesOfBlock (decryptBlock t (blockOfBytes bs)))

/-! ## Invariants -/

/-- KS_PHASE and KS_IDX are KS_IDLE / 0 outside a SCHEDULE command (R53), RND is 0 outside a block command, BLK_IDX and
CHAIN are 0 outside ENCRYPT and DECRYPT (R52; for RND and BLK_IDX read from R54, log 14 and log 16). -/
def SequencingConfined (s : State) : Prop :=
  ((s.busy = true ∧ decode s.cmdreg = .command .schedule) ∨ (s.ksPhase = .idle ∧ s.ksIdx = 0#10)) ∧
  ((s.busy = true ∧ (decode s.cmdreg = .command .encblk ∨ decode s.cmdreg = .command .decblk)) ∨ s.rnd = 0#5) ∧
  ((s.busy = true ∧ (decode s.cmdreg = .command .encrypt ∨ decode s.cmdreg = .command .decrypt)) ∨
    (s.blkIdx = 0#11 ∧ s.chain = Block.zero))

/-- The ranges of the sequencing registers (R54, R150). That KS_IDX is 0 in KS_INIT, whose table writes are one step, and in
KS_DONE, where R150 and R158 leave it open until the completion, is the model's (DESIGN CHOICE, log 13). -/
def SequencingBounded (s : State) : Prop :=
  (s.ksPhase = .xor → s.ksIdx.toNat < 18) ∧ (s.ksPhase = .enc → s.ksIdx.toNat < 521) ∧
  (s.ksPhase ≠ .xor → s.ksPhase ≠ .enc → s.ksIdx = 0#10) ∧
  s.rnd.toNat ≤ 16 ∧ s.blkIdx.toNat ≤ s.params.msgMax / 8

/-- The key-schedule sequencer is past KS_CHECK only for a key that R151 derives a schedule from. -/
def SequencerReady (s : State) : Prop :=
  (s.ksPhase = .init ∨ s.ksPhase = .xor ∨ s.ksPhase = .enc) → s.keyLengthOk = true ∧ ∃ k, s.keyBytes = some k

/-- SCHED_VALID is 0 while a SCHEDULE or a ZEROIZE runs (R341). -/
def InvalidWhileRewritten (s : State) : Prop :=
  s.busy = true → (decode s.cmdreg = .command .schedule ∨ decode s.cmdreg = .command .zeroize) → s.schedValid = false

/-- The reserved bits of CONFIG are 0 (R42). -/
def ConfigReservedZero (s : State) : Prop := s.config &&& ~~~configMask = 0#32

/-- Memory is in its canonical form and lists only bytes of the four buffers (R30). -/
def MemoryInBuffers (s : State) : Prop :=
  Memory.wf s.mem ∧ ∀ c ∈ s.mem, ∃ b, InBuf s.params b c.1

/-- R33: SCHED_VALID = 1 means P and S hold the complete result of a successful SCHEDULE, in a run that consumed no undef
byte. -/
def ScheduleDerived (s : State) : Prop :=
  s.schedValid = true → FaultFree s →
    ∃ k : List Byte, Config.keyMin ≤ k.length ∧ k.length ≤ Config.keyMax ∧ s.sched = derive k

/-- R37: OUT is still undef as reset left it, or it holds OUTLEN bytes and 0x00 after them; in a run that consumed no undef
byte. -/
def OutShape (s : State) : Prop :=
  FaultFree s → s.outlen.toNat ≤ Buf.size s.params .out ∧
    ((s.outlen = 0#16 ∧ ∀ i, i < Buf.size s.params .out → s.bufRead .out i = none) ∨
      ((∀ i, i < s.outlen.toNat → s.bufRead .out i ≠ none) ∧
        ∀ i, s.outlen.toNat ≤ i → i < Buf.size s.params .out → s.bufRead .out i = some 0#8))

/-- The invariant of the machine. -/
structure StateInv (s : State) : Prop where
  confined    : SequencingConfined s
  bounded     : SequencingBounded s
  ready       : SequencerReady s
  invalid     : InvalidWhileRewritten s
  config      : ConfigReservedZero s
  memory      : MemoryInBuffers s
  derived     : ScheduleDerived s
  out         : OutShape s

end Sys2Proof.Machine
end

