-- ==== Sys2Proof/Certificates/Slice0/Obligations.lean ====
section
/-! DEFINITION. The statements about the machine, one `def Obligations.<Name> : Prop` each, with the rule of spec/ it
formalises. The terms they share are in Sys2Proof/Safety.lean. -/

open Sys2Proof Sys2Proof.Machine

/-! ## Encoding -/

/-- R123: the eight command words, each written out as its OPC in bits 7:0 under RSV = 0; and words of each illegal kind
(R124). -/
def Obligations.CommandWordsDecode : Prop :=
  decode 0x00000000#32 = .command .nop ∧ decode 0x00000001#32 = .command .schedule ∧
  decode 0x00000002#32 = .command .encrypt ∧ decode 0x00000003#32 = .command .decrypt ∧
  decode 0x00000004#32 = .command .encblk ∧ decode 0x00000005#32 = .command .decblk ∧
  decode 0x00000006#32 = .command .clrerr ∧ decode 0x00000007#32 = .command .zeroize ∧
  decode 0x00000008#32 = .illegal .unassignedOpcode ∧ decode 0x000000FF#32 = .illegal .unassignedOpcode ∧
  decode 0x00000101#32 = .illegal .reservedField ∧ decode 0x80000000#32 = .illegal .reservedField

/-- R124, R125: decoding and encoding agree in both directions over all 2^32 words, ILLEGAL is exactly RSV ≠ 0 or OPC in
0x08..0xFF, and the words are those of the opcode map. -/
def Obligations.DecodeAgreesWithEncode : Prop :=
  (∀ (v : Word) (i : Instr), decode v = .command i ↔ v = encode i) ∧
  (∀ v : Word, (∃ why, decode v = .illegal why) ↔ (v.toNat / 256 ≠ 0 ∨ 8 ≤ v.toNat % 256)) ∧
  [Instr.nop, .schedule, .encrypt, .decrypt, .encblk, .decblk, .clrerr, .zeroize].map encode =
    [0x00#32, 0x01#32, 0x02#32, 0x03#32, 0x04#32, 0x05#32, 0x06#32, 0x07#32]

/-! ## The lifecycle of a command -/

/-- R342: the completion step, whichever way the interleaving reaches it, runs the command CMDREG decodes to; the engine has
no completion step while BUSY = 0. `u` is the state with the turn taken off the interleaving. -/
def Obligations.CompletionStepRunsDecodedCommand : Prop :=
  ∀ s u : State, s.nextTurn = (.completion, u) →
    (u.busy = true → ∀ i, decode u.cmdreg = .command i → step s = exec i u) ∧
    (u.busy = false → step s = .next u)

/-- R342, R344: every command, in every state, gives a next state with BUSY = 0, DONE = 1 and LAST_OP from CMDREG, and writes
no settings register (R122), nothing of the host agent and nothing of the interleaving. Not these rules' but the model's:
CMDREG keeps its word, which R50 leaves unspecified between commands (log 7); RND and BLK_IDX are 0 afterwards, read from R54
by inference (log 16; KS_PHASE and KS_IDX at rest is R53); and completion and frame hold also on the path that consumes an
undef byte (log 11, log 12), where R358 has a claim take FAULT_UNDEF = 0 as a premise. -/
def Obligations.EveryCommandCompletes : Prop :=
  ∀ (i : Instr) (s : State), ∃ t e, exec i s = .next t ∧ CompletedWith e s t ∧ AtRest t ∧ KeepsSettings s t

/-- R322: an illegal word completes with ILLEGAL_CMD and changes nothing else, but that the sequencing registers are put at
rest: KS_PHASE and KS_IDX by R53, RND and BLK_IDX by inference from R54 (log 16). That R322's "No other state changes" covers
CMDREG, XL and XR too, which R50 and R51 leave unspecified between commands, is the model's choice (log 7, log 8). -/
def Obligations.IllegalWordChangesNothingElse : Prop :=
  ∀ s u : State, s.nextTurn = (.completion, u) → u.busy = true → ∀ why, decode u.cmdreg = .illegal why →
    ∃ t, step s = .next t ∧ CompletedWith .illegalCmd u t ∧ KeepsSettings u t ∧ KeepsSchedule u t ∧ KeepsBlk u t ∧
      KeepsDatapath u t ∧ KeepsMemory u t ∧ t.outlen = u.outlen ∧ t.overrun = u.overrun ∧ t.faultUndef = u.faultUndef ∧
      t.draws = u.draws ∧ AtRest t

/-- R341: a CMD write while idle latches the word, sets BUSY, clears SCHED_VALID exactly for SCHEDULE and ZEROIZE, and keeps
ERRCODE, LAST_OP, DONE and everything a command works on. -/
def Obligations.CmdWriteIssues : Prop :=
  ∀ (s : State) (v : Word), s.busy = false →
    let t := s.hostWrite 0x004#16 v
    t.cmdreg = v ∧ t.busy = true ∧
    ((v = 0x00000001#32 ∨ v = 0x00000007#32) → t.schedValid = false) ∧
    (v ≠ 0x00000001#32 → v ≠ 0x00000007#32 → t.schedValid = s.schedValid) ∧
    t.errcode = s.errcode ∧ t.lastOp = s.lastOp ∧ t.done = s.done ∧ t.overrun = s.overrun ∧ t.sched = s.sched ∧
    t.mem = s.mem ∧ t.config = s.config ∧ t.keylen = s.keylen ∧ t.ivlen = s.ivlen ∧ t.msglen = s.msglen ∧
    t.outlen = s.outlen ∧ t.blkL = s.blkL ∧ t.blkR = s.blkR ∧ t.faultUndef = s.faultUndef

/-- R340: the engine leaves IDLE only by the host's CMD write, and leaves RUNNING only by a completion or by reset. -/
def Obligations.BusyChangesOnlyByIssueCompletionOrReset : Prop :=
  ∀ s t : State, step s = .next t →
    (s.busy = false → t.busy = true →
      s.nextTurn.1 = .host ∧ ∃ v rest, s.program = HostOp.wr 0x004#16 v :: rest ∧ t.cmdreg = v) ∧
    (s.busy = true → t.busy = false → s.nextTurn.1 = .completion ∨ s.nextTurn.1 = .reset)

/-- R90, R98: while a command runs, no step that leaves it running changes an input of it; R342: nor a result or the report of
the command before, since all of a command's writes become visible together at its completion. That the engine's internal
steps leave OUT, OUTLEN, BLK and SCHED_VALID alone in State itself, where D27 lets an implementation be mid-update, is the
model's choice (log 14). -/
def Obligations.InputsStableWhileRunning : Prop :=
  ∀ s t : State, step s = .next t → s.busy = true → t.busy = true →
    t.cmdreg = s.cmdreg ∧ t.config = s.config ∧ t.keylen = s.keylen ∧ t.ivlen = s.ivlen ∧ t.msglen = s.msglen ∧
    t.blkL = s.blkL ∧ t.blkR = s.blkR ∧ t.mem = s.mem ∧ t.params = s.params ∧ t.schedValid = s.schedValid ∧
    t.outlen = s.outlen ∧ t.errcode = s.errcode ∧ t.lastOp = s.lastOp

/-- R344: under the model's interleaving (finite turns, then the engine; the model's choice, log 4) a running command is no
longer running after at most one step more than there are turns, if the host makes no access R85 does not define. That a
command which consumes an undef byte ends too is the model's reading (log 11, log 12); R358 has a claim take FAULT_UNDEF = 0 as
a premise. -/
def Obligations.RunningCommandTerminates : Prop :=
  ∀ s : State, s.busy = true → programWf s.program = true →
    ∃ n t, n ≤ s.turns.length + 1 ∧ Host.Core.run Sys2Proof.core n s = .next t ∧ State.busy t = false

/-- R150, R203, R395: however many internal steps the engine takes before the completion step, the completed state is the
same. `SequencerReady` holds of every state the machine reaches (it is part of `StateInv`). -/
def Obligations.ResultIndependentOfInternalSteps : Prop :=
  ∀ (s : State) (i : Instr) (n : Nat), SequencerReady s → decode s.cmdreg = .command i →
    exec i (s.ticks n) = exec i s

/-! ## Control commands -/

/-- R320: NOP completes with OK and changes nothing else, but that the sequencing registers are put at rest: KS_PHASE and
KS_IDX by R53, RND and BLK_IDX by inference from R54 (log 16). That R320's "No other state changes" covers CMDREG, XL and XR
too, which R50 and R51 leave unspecified between commands, is the model's choice (log 7, log 8). -/
def Obligations.NopChangesNothingElse : Prop :=
  ∀ s : State, ∃ t, exec .nop s = .next t ∧ CompletedWith .ok s t ∧ KeepsSettings s t ∧ KeepsSchedule s t ∧
    KeepsBlk s t ∧ KeepsDatapath s t ∧ KeepsMemory s t ∧ t.outlen = s.outlen ∧ t.overrun = s.overrun ∧
    t.faultUndef = s.faultUndef ∧ t.draws = s.draws ∧ AtRest t ∧ (s.cmdreg = 0x00000000#32 → t.lastOp = 0x00#8)

/-- R321: CLRERR completes with OK and OVERRUN = 0; R122: it writes nothing else. The model's own: CMDREG keeps its word
(log 7; R50 leaves it unspecified), XL and XR are as they were (log 8; R51 leaves them unspecified), and RND and BLK_IDX are
put at 0 (log 16, by inference from R54); KS_PHASE and KS_IDX at rest is R53. The count of draws is the model's field
(log 9). -/
def Obligations.ClrerrClearsOverrunOnly : Prop :=
  ∀ s : State, ∃ t, exec .clrerr s = .next t ∧ CompletedWith .ok s t ∧ t.overrun = false ∧ KeepsSettings s t ∧
    KeepsSchedule s t ∧ KeepsBlk s t ∧ KeepsDatapath s t ∧ KeepsMemory s t ∧ t.outlen = s.outlen ∧
    t.faultUndef = s.faultUndef ∧ t.draws = s.draws ∧ AtRest t ∧ (s.cmdreg = 0x00000006#32 → t.lastOp = 0x06#8)

/-- R323: every table word, every buffer byte, OUTLEN, BLK and CHAIN are 0, OVERRUN and SCHED_VALID are 0; CONFIG, KEYLEN,
IVLEN, MSGLEN and FAULT_UNDEF keep their values; the sequencing registers are at rest (R58, its after-ZEROIZE column). The
model's own: CMDREG keeps its word (log 7) and XL and XR are as they were (log 8), where that column says unspecified; and
the count of draws is the model's field (log 9). -/
def Obligations.ZeroizeErasesEverything : Prop :=
  ∀ s : State, ∃ t, exec .zeroize s = .next t ∧ CompletedWith .ok s t ∧
    (∀ i, i < 18 → t.sched.pAt i = 0#32) ∧ (∀ k j, k < 4 → j < 256 → t.sched.sAt k j = 0#32) ∧
    BufHolds .key [] t ∧ BufHolds .iv [] t ∧ BufHolds .inp [] t ∧ BufHolds .out [] t ∧
    t.outlen = 0#16 ∧ t.blkL = 0#32 ∧ t.blkR = 0#32 ∧ t.chain = Block.zero ∧
    t.overrun = false ∧ t.schedValid = false ∧ KeepsSettings s t ∧ t.faultUndef = s.faultUndef ∧
    t.xl = s.xl ∧ t.xr = s.xr ∧ t.draws = s.draws ∧ AtRest t ∧ (s.cmdreg = 0x00000007#32 → t.lastOp = 0x07#8) ∧
    (∀ a, (∀ b, ¬ InBuf s.params b a) → Memory.read t.mem a = Memory.read s.mem a)

/-! ## The key schedule -/

/-- R153, R190, R192: the table has 1042 words, KS_INIT lays it out as P, then S0, S1, S2, S3, and it has the spot values. The
values and the layout are PRESUMED (log 19): those rules mark them "from general knowledge, not in source". -/
def Obligations.InitialTablesArePi : Prop :=
  piTable.length = 1042 ∧
  (∀ i, i < 18 → piTable[i]? = some (piSchedule.pAt i)) ∧
  (∀ k j, k < 4 → j < 256 → piTable[18 + 256 * k + j]? = some (piSchedule.sAt k j)) ∧
  piTable[0]? = some 0x243F6A88#32 ∧ piTable[17]? = some 0x8979FB1B#32 ∧ piTable[18]? = some 0xD1310BA6#32 ∧
  piTable[274]? = some 0x4B7A70E9#32 ∧ piTable[530]? = some 0xE93D5A68#32 ∧ piTable[786]? = some 0x3A39CE37#32 ∧
  piTable[1041]? = some 0x3AC372E6#32

/-- R82, R154, R160: KS_XOR puts bytes (4i + m) mod n of the key, big-endian, onto each P[i] and leaves S alone; and what
those words are for n = 4, 8, 5 and 56. -/
def Obligations.KeyXorCyclesTheKey : Prop :=
  ∀ (k : List Byte) (t : Schedule),
    (∀ i, i < 18 → (ksXor k t).pAt i = t.pAt i ^^^
      ((byteAt k ((4 * i) % k.length) ++ byteAt k ((4 * i + 1) % k.length) ++ byteAt k ((4 * i + 2) % k.length) ++
        byteAt k ((4 * i + 3) % k.length) : BitVec 32))) ∧
    (ksXor k t).sbox = t.sbox ∧
    (∀ i, i < 18 →
      let w := fun a b c d : Nat => (byteAt k a ++ byteAt k b ++ byteAt k c ++ byteAt k d : BitVec 32)
      (k.length = 4 → keyWord k i = w 0 1 2 3) ∧
      (k.length = 8 → keyWord k i = if i % 2 = 0 then w 0 1 2 3 else w 4 5 6 7) ∧
      (k.length = 5 → keyWord k i =
        if i % 5 = 0 then w 0 1 2 3 else if i % 5 = 1 then w 4 0 1 2 else if i % 5 = 2 then w 3 4 0 1
        else if i % 5 = 3 then w 2 3 4 0 else w 1 2 3 4) ∧
      (k.length = 56 → keyWord k i =
        if i < 14 then w (4 * i) (4 * i + 1) (4 * i + 2) (4 * i + 3)
        else w (4 * (i - 14)) (4 * (i - 14) + 1) (4 * (i - 14) + 2) (4 * (i - 14) + 3)))

/-- R155, R156, R157: the derivation is a chain of 521 encryptions from (0, 0). Step k encrypts the block of the step before
under the tables as the steps before left them, and stores the two halves in P[2k], P[2k+1] (k < 9) or in
St[j], St[j+1], t = (k-9) div 128, j = 2((k-9) mod 128); every other table word is as it was. -/
def Obligations.DerivationIsChainedEncryption : Prop :=
  ∀ key : List Byte, ∃ x : Nat → Schedule × Block,
    x 0 = (ksXor key piSchedule, Block.zero) ∧ derive key = (x 521).1 ∧
    ∀ k, k < 521 →
      (x (k + 1)).2 = encryptBlock (x k).1 (x k).2 ∧
      (∀ i, i < 18 → (x (k + 1)).1.pAt i =
        if k < 9 ∧ i = 2 * k then (x (k + 1)).2.l
        else if k < 9 ∧ i = 2 * k + 1 then (x (k + 1)).2.r
        else (x k).1.pAt i) ∧
      (∀ t j, t < 4 → j < 256 → (x (k + 1)).1.sAt t j =
        if 9 ≤ k ∧ t = (k - 9) / 128 ∧ j = 2 * ((k - 9) % 128) then (x (k + 1)).2.l
        else if 9 ≤ k ∧ t = (k - 9) / 128 ∧ j = 2 * ((k - 9) % 128) + 1 then (x (k + 1)).2.r
        else (x k).1.sAt t j)

/-- R151, R158, R163: SCHEDULE with a defined key of 4 to 56 bytes derives its tables, sets SCHED_VALID and zeroizes KEY. -/
def Obligations.ScheduleDerivesTheTables : Prop :=
  ∀ (s : State) (k : List Byte), 4 ≤ s.keylen.toNat → s.keylen.toNat ≤ 56 →
    s.bufBytes .key s.keylen.toNat = some k →
    ∃ t, exec .schedule s = .next t ∧ CompletedWith .ok s t ∧ t.sched = derive k ∧ t.schedValid = true ∧
      BufHolds .key [] t ∧ t.faultUndef = s.faultUndef

/-- R152, R158: SCHEDULE with KEYLEN outside 4..56 reports KEY_SIZE, leaves P, S and SCHED_VALID (0 since the issue) as they
were and zeroizes KEY, whether or not KEY was ever written; CHAIN is as it was (R122, R347: an error changes exactly what the
command's rule says). That XL and XR are as they were is the model's choice (log 8); R51 leaves them unspecified between
commands. -/
def Obligations.ScheduleRefusesKeySize : Prop :=
  ∀ s : State, (s.keylen.toNat < 4 ∨ 56 < s.keylen.toNat) →
    ∃ t, exec .schedule s = .next t ∧ CompletedWith .keySize s t ∧ KeepsSchedule s t ∧ KeepsDatapath s t ∧
      BufHolds .key [] t ∧ t.faultUndef = s.faultUndef

/-- The frame of SCHEDULE (R122, R151): settings, BLK, OUTLEN, OVERRUN, CHAIN and every byte outside KEY are as they were. The
model's own: CMDREG keeps its word (log 7), where R50 says unspecified between commands, and the frame holds also on the
path that consumed an undef byte (log 11), where R38 gives no defined result. -/
def Obligations.ScheduleFrame : Prop :=
  ∀ s t : State, exec .schedule s = .next t →
    KeepsSettings s t ∧ KeepsBlk s t ∧ t.outlen = s.outlen ∧ t.overrun = s.overrun ∧ t.chain = s.chain ∧
      KeepsMemoryOutside .key s t

/-- R161: the tables of a successful SCHEDULE are a function of KEY[0..KEYLEN-1] alone. -/
def Obligations.ScheduleDependsOnKeyBytesOnly : Prop :=
  ∀ s s' t t' : State, 4 ≤ s.keylen.toNat → s.keylen.toNat ≤ 56 → s'.keylen = s.keylen →
    (∀ i, i < s.keylen.toNat → s.bufRead .key i ≠ none ∧ s'.bufRead .key i = s.bufRead .key i) →
    exec .schedule s = .next t → exec .schedule s' = .next t' → t'.sched = t.sched

/-- R150, R159: from KS_CHECK the sequencer derives the same tables step by step. With one step each for KS_CHECK and KS_INIT
(the model's grain, log 13), 18 for KS_XOR and 521 for KS_ENC, it reaches KS_DONE after exactly 541 steps; with a bad KEYLEN
after one, P and S untouched. -/
def Obligations.SequencerRefinesDerive : Prop :=
  ∀ s : State, decode s.cmdreg = .command .schedule → s.ksPhase = .check →
    (∀ k, 4 ≤ s.keylen.toNat → s.keylen.toNat ≤ 56 → s.bufBytes .key s.keylen.toNat = some k →
      (s.ticks 541).ksPhase = .done ∧ (s.ticks 541).sched = derive k ∧
        ∀ n, n < 541 → (s.ticks n).ksPhase ≠ .done) ∧
    ((s.keylen.toNat < 4 ∨ 56 < s.keylen.toNat) →
      (s.ticks 1).ksPhase = .done ∧ (s.ticks 1).sched = s.sched)

/-! ## The block core -/

/-- R200: the F function on numbers: the bytes a, b, c, d of x from the most significant down, both additions modulo 2^32. -/
def Obligations.FeistelFunction : Prop :=
  ∀ (t : Schedule) (x : Word),
    let s0 := (t.sAt 0 (x.toNat / 2 ^ 24)).toNat
    let s1 := (t.sAt 1 (x.toNat / 2 ^ 16 % 256)).toNat
    let s2 := (t.sAt 2 (x.toNat / 2 ^ 8 % 256)).toNat
    let s3 := (t.sAt 3 (x.toNat % 256)).toNat
    (feistelF t x).toNat = ((((s0 + s1) % 2 ^ 32) ^^^ s2) + s3) % 2 ^ 32

/-- R207: DecryptBlock and EncryptBlock are inverse to each other, for any P and S. -/
def Obligations.BlockTransformsInvert : Prop :=
  ∀ (t : Schedule) (b : Block), decryptBlock t (encryptBlock t b) = b ∧ encryptBlock t (decryptBlock t b) = b

/-- R210: EncryptBlock equals the alternating form with no swaps: `L ^= P[0]`; for r = 1..16, `R ^= F(L) ^ P[r]` for odd r and
`L ^= F(R) ^ P[r]` for even r; `R ^= P[17]`; output (R, L). -/
def Obligations.AlternatingFormAgrees : Prop :=
  ∀ (t : Schedule) (b : Block),
    let x := ((List.range 16).map (fun i => i + 1)).foldl
      (fun (c : Word × Word) r =>
        if r % 2 = 1 then (c.1, c.2 ^^^ (feistelF t c.1 ^^^ t.pAt r)) else (c.1 ^^^ (feistelF t c.2 ^^^ t.pAt r), c.2))
      (b.l ^^^ t.pAt 0, b.r)
    encryptBlock t b = ⟨x.2 ^^^ t.pAt 17, x.1⟩

/-- R204: ENCBLK with a valid schedule encrypts BLK in place; without one it reports NO_SCHEDULE and leaves BLK. -/
def Obligations.EncblkEncryptsInPlace : Prop :=
  ∀ s : State,
    (s.schedValid = true → ∃ t, exec .encblk s = .next t ∧ CompletedWith .ok s t ∧
      (⟨t.blkL, t.blkR⟩ : Block) = encryptBlock s.sched ⟨s.blkL, s.blkR⟩ ∧ (s.cmdreg = 0x00000004#32 → t.lastOp = 0x04#8)) ∧
    (s.schedValid = false → ∃ t, exec .encblk s = .next t ∧ CompletedWith .noSchedule s t ∧ KeepsBlk s t ∧
      (s.cmdreg = 0x00000004#32 → t.lastOp = 0x04#8))

/-- R205: DECBLK with a valid schedule decrypts BLK in place, and after ENCBLK restores it; without one it reports
NO_SCHEDULE and leaves BLK. -/
def Obligations.DecblkDecryptsInPlace : Prop :=
  ∀ s : State,
    (s.schedValid = true → ∃ t, exec .decblk s = .next t ∧ CompletedWith .ok s t ∧
      (⟨t.blkL, t.blkR⟩ : Block) = decryptBlock s.sched ⟨s.blkL, s.blkR⟩ ∧ (s.cmdreg = 0x00000005#32 → t.lastOp = 0x05#8)) ∧
    (s.schedValid = false → ∃ t, exec .decblk s = .next t ∧ CompletedWith .noSchedule s t ∧ KeepsBlk s t ∧
      (s.cmdreg = 0x00000005#32 → t.lastOp = 0x05#8)) ∧
    (s.schedValid = true → ∃ t u, exec .encblk s = .next t ∧ exec .decblk t = .next u ∧ CompletedWith .ok t u ∧
      u.blkL = s.blkL ∧ u.blkR = s.blkR)

/-- The frame of ENCBLK and DECBLK (R122, R204, R205, R208): only BLK, the completion flags and the hidden halves XL, XR
change (and RND, KS_PHASE, KS_IDX and BLK_IDX, which are not named). The model's own: CMDREG keeps its word (log 7), where R50
says unspecified between commands. -/
def Obligations.BlockCommandFrame : Prop :=
  ∀ (i : Instr) (s t : State), (i = .encblk ∨ i = .decblk) → exec i s = .next t →
    KeepsSettings s t ∧ KeepsSchedule s t ∧ KeepsMemory s t ∧ t.outlen = s.outlen ∧ t.overrun = s.overrun ∧
      t.chain = s.chain ∧ t.faultUndef = s.faultUndef

/-! ## The padding unit -/

/-- R244, R249: unpadding gives the message back: under pkcs7 always, with 1 to 8 bytes added; under none for an aligned
message; under zero exactly when the message does not end in 0x00 (an empty message does not). R242: zero padding appends
8 - (len mod 8) zero bytes to an unaligned message, none to an empty one, and 8 or none to another aligned one, by
ZERO_PAD_ALIGNED. R243, R244: zero unpadding removes every trailing 0x00 byte, however many, and nothing else. -/
def Obligations.PaddingRoundTripLaws : Prop :=
  (∀ m, unpadPkcs7 (padPkcs7 m) = .ok m ∧ m.length + 1 ≤ (padPkcs7 m).length ∧ (padPkcs7 m).length ≤ m.length + 8 ∧
    (padPkcs7 m).length % 8 = 0) ∧
  (∀ z m, m.length % 8 = 0 → ∃ q, padMessage z .none m = .ok q ∧ unpadMessage .none q = .ok m) ∧
  (∀ z m, unpadZero (padZero z m) = m ↔ ¬ ∃ m', m = m' ++ [0x00#8]) ∧
  (∀ z m, padZero z m = m ++ List.replicate
    (if m.length % 8 ≠ 0 then 8 - m.length % 8 else if m = [] then 0 else if z = .full then 8 else 0) 0x00#8) ∧
  (∀ m k, (¬ ∃ m', m = m' ++ [0x00#8]) → unpadZero (m ++ List.replicate k 0x00#8) = m)

/-- R246: pkcs7 unpadding gives `m` exactly when the input is `m` and then n bytes of value n for an n from 1 to 8; its only
error is PADDING. -/
def Obligations.Pkcs7UnpadAcceptsExactlyPaddings : Prop :=
  ∀ q : List Byte,
    (∀ m, unpadPkcs7 q = .ok m ↔
      ∃ n, 1 ≤ n ∧ n ≤ 8 ∧ q = m ++ List.replicate n (BitVec.ofNat 8 n)) ∧
    (∀ e, unpadPkcs7 q = .error e → e = .padding)

/-- R248: the padded length under each scheme, and that OUT holds the largest. -/
def Obligations.PaddedLengths : Prop :=
  (∀ z m, m.length % 8 = 0 → padMessage z .none m = .ok m) ∧
  (∀ z m, m.length % 8 ≠ 0 → padMessage z .none m = .error .dataLength) ∧
  (∀ z m, ∃ q, padMessage z .zero m = .ok q ∧
    q.length = 8 * ((m.length + 7) / 8) + (if z = .full ∧ m.length % 8 = 0 ∧ m.length ≠ 0 then 8 else 0)) ∧
  (∀ z m, ∃ q, padMessage z .pkcs7 m = .ok q ∧ q.length = 8 * (m.length / 8 + 1)) ∧
  (∀ (c : Params) p m q, m.length ≤ c.msgMax → padMessage c.zeroPadAligned p m = .ok q →
    q.length ≤ Buf.size c .out)

/-! ## The mode controller -/

/-- R275, R276: ECB transforms each block by itself; with the big-endian packing of a block (R10, R83, which the spec marks as
derived from its vector V-L1-3) written out. -/
def Obligations.EcbBlockEquations : Prop :=
  ∀ (t : Schedule) (iv : Block) (q : List Byte), BlockPacking t ∧ (q.length % 8 = 0 →
    (modePass .encrypt .ecb t iv q).length = q.length ∧ (modePass .decrypt .ecb t iv q).length = q.length ∧
    ∀ i, i < q.length / 8 →
      blkAt (modePass .encrypt .ecb t iv q) i = encBytes t (blkAt q i) ∧
      blkAt (modePass .decrypt .ecb t iv q) i = decBytes t (blkAt q i))

/-- R277, R278: the CBC equations, with IV as the block before the first; with the big-endian packing of a block (R10, R83,
which the spec marks as derived from its vector V-L1-3) written out. -/
def Obligations.CbcBlockEquations : Prop :=
  ∀ (t : Schedule) (iv : Block) (q : List Byte), BlockPacking t ∧ (q.length % 8 = 0 →
    let c := modePass .encrypt .cbc t iv q
    let p := modePass .decrypt .cbc t iv q
    c.length = q.length ∧ p.length = q.length ∧
    ∀ i, i < q.length / 8 →
      blkAt c i = encBytes t (xorBytes (blkAt q i) (if i = 0 then bytesOfBlock iv else blkAt c (i - 1))) ∧
      blkAt p i = xorBytes (decBytes t (blkAt q i)) (if i = 0 then bytesOfBlock iv else blkAt q (i - 1)))

/-- R279, R280, R281: the CFB equations for a message of any length. Both directions use the forward transform of the
ciphertext block before (IV for the first); the last block may be partial and takes the first bytes of its keystream. The
big-endian packing of a block (R10, R83, which the spec marks as derived from its vector V-L1-3) is written out. -/
def Obligations.CfbBlockEquations : Prop :=
  ∀ (t : Schedule) (iv : Block) (m : List Byte),
    let c := modePass .encrypt .cfb t iv m
    let p := modePass .decrypt .cfb t iv m
    BlockPacking t ∧ c.length = m.length ∧ p.length = m.length ∧
    ∀ i, i < (m.length + 7) / 8 →
      blkAt c i = xorBytes (blkAt m i) (encBytes t (if i = 0 then bytesOfBlock iv else blkAt c (i - 1))) ∧
      blkAt p i = xorBytes (blkAt m i) (encBytes t (if i = 0 then bytesOfBlock iv else blkAt m (i - 1)))

/-- R272, R273: ENCRYPT, when its checks pass and its operands are defined, commits the pass over the padded message (the
message itself under CFB). -/
def Obligations.EncryptCommitsCiphertext : Prop :=
  ∀ (s : State) (m : Mode) (p : Pad) (iv : Block) (msg : List Byte),
    s.mode? = some m → s.pad? = some p → s.schedValid = true → (m ≠ .ecb → s.ivlen = 8#4) →
    s.msglen.toNat ≤ s.params.msgMax → (m ≠ .cfb → p = .none → s.msglen.toNat % 8 = 0) →
    s.ivBlock m = some iv → s.message = some msg →
    ∃ q t, (if m = .cfb then q = msg else padMessage s.params.zeroPadAligned p msg = .ok q) ∧
      exec .encrypt s = .next t ∧ CompletedWith .ok s t ∧
      BufHolds .out (modePass .encrypt m s.sched iv q) t ∧
      t.outlen.toNat = (modePass .encrypt m s.sched iv q).length ∧ t.chain = Block.zero ∧
      t.faultUndef = s.faultUndef

/-- R272, R274: DECRYPT, when its checks pass and its operands are defined, commits the unpadded pass, or reports PADDING
with OUT all zero and OUTLEN 0. -/
def Obligations.DecryptCommitsPlaintextOrPadding : Prop :=
  ∀ (s : State) (m : Mode) (p : Pad) (iv : Block) (msg : List Byte),
    s.mode? = some m → s.pad? = some p → s.schedValid = true → (m ≠ .ecb → s.ivlen = 8#4) →
    s.msglen.toNat ≤ s.params.msgMax → (m ≠ .cfb → s.msglen.toNat % 8 = 0) →
    s.ivBlock m = some iv → s.message = some msg →
    let plain := modePass .decrypt m s.sched iv msg
    let res : Except ErrCode (List Byte) := if m = .cfb then .ok plain else unpadMessage p plain
    (∀ r, res = .ok r → ∃ t, exec .decrypt s = .next t ∧ CompletedWith .ok s t ∧ BufHolds .out r t ∧
      t.outlen.toNat = r.length ∧ t.chain = Block.zero ∧ t.faultUndef = s.faultUndef) ∧
    (∀ e, res = .error e → e = .padding ∧ p = .pkcs7 ∧ ∃ t, exec .decrypt s = .next t ∧
      CompletedWith .padding s t ∧ BufHolds .out [] t ∧ t.outlen = 0#16 ∧ t.chain = Block.zero ∧
      t.faultUndef = s.faultUndef)

/-- R346, R272: ENCRYPT and DECRYPT report the first failing check in the order BAD_CONFIG, NO_SCHEDULE, IV_SIZE,
MSG_TOO_LONG, DATA_LENGTH, with OUT all zero, OUTLEN 0 and CHAIN 0. MODE is CONFIG bits 1:0 and PAD bits 3:2 (R42). -/
def Obligations.ChecksReportFirstError : Prop :=
  ∀ (s : State) (i : Instr), (i = .encrypt ∨ i = .decrypt) →
    let mode := (s.config.extractLsb' 0 2).toNat
    let pad := (s.config.extractLsb' 2 2).toNat
    let n := s.msglen.toNat
    ∃ t, exec i s = .next t ∧
      let failed := fun e => CompletedWith e s t ∧ BufHolds .out [] t ∧ t.outlen = 0#16 ∧ t.chain = Block.zero ∧
        t.faultUndef = s.faultUndef
      (mode = 3 ∨ pad = 3 → failed .badConfig) ∧
      (mode ≠ 3 → pad ≠ 3 → s.schedValid = false → failed .noSchedule) ∧
      (mode ≠ 3 → pad ≠ 3 → s.schedValid = true → mode ≠ 0 → s.ivlen ≠ 8#4 → failed .ivSize) ∧
      (mode ≠ 3 → pad ≠ 3 → s.schedValid = true → (mode = 0 ∨ s.ivlen = 8#4) → s.params.msgMax < n →
        failed .msgTooLong) ∧
      (mode ≠ 3 → pad ≠ 3 → s.schedValid = true → (mode = 0 ∨ s.ivlen = 8#4) → n ≤ s.params.msgMax →
        mode ≠ 2 → n % 8 ≠ 0 → (i = .decrypt ∨ pad = 0) → failed .dataLength)

/-- The frame of ENCRYPT and DECRYPT (R122, R272): settings, tables, BLK, OVERRUN and every byte outside OUT are as they
were, on every path. The model's own: CMDREG keeps its word (log 7), where R50 says unspecified between commands, and the
frame holds also on the path that consumed an undef byte (log 12), where R38 gives no defined result. -/
def Obligations.MessageCommandFrame : Prop :=
  ∀ (i : Instr) (s t : State), (i = .encrypt ∨ i = .decrypt) → exec i s = .next t →
    KeepsSettings s t ∧ KeepsSchedule s t ∧ KeepsBlk s t ∧ t.overrun = s.overrun ∧ KeepsMemoryOutside .out s t

/-- R285: after a successful ENCRYPT of a defined message, OUTLEN is a multiple of 8 under ECB and CBC and 0 only for an
empty message under none or zero; under CFB it is MSGLEN. -/
def Obligations.CiphertextLength : Prop :=
  ∀ (s t : State) (m : Mode) (p : Pad) (x : Block × List Byte), exec .encrypt s = .next t → t.errcode = .ok →
    s.mode? = some m → s.pad? = some p → s.passInput m = some x →
    (m ≠ .cfb → t.outlen.toNat % 8 = 0 ∧ (t.outlen = 0#16 ↔ (s.msglen = 0#16 ∧ p ≠ .pkcs7))) ∧
    (m = .cfb → t.outlen = s.msglen)

/-- R284, at the level of the data pass: decrypting what encryption gave returns the message, for every mode, padding, IV,
tables and length; under zero padding of ECB or CBC for a message that does not end in 0x00 (R244). -/
def Obligations.DataPassRoundTrip : Prop :=
  ∀ (m : Mode) (p : Pad) (z : ZeroPadAligned) (t : Schedule) (iv : Block) (msg c : List Byte),
    cryptMessage .encrypt m p z t iv msg = .ok c →
    (m ≠ .cfb → p = .zero → ¬ ∃ m', msg = m' ++ [0x00#8]) →
    cryptMessage .decrypt m p z t iv c = .ok msg

/-- R284, on the machine: if ENCRYPT succeeds from `s`, giving `t`, then DECRYPT from any state `s'` with the same engine,
tables, CONFIG and IV whose message is `t`'s OUT[0..OUTLEN) succeeds and leaves the message of `s` in OUT. The ciphertext
must fit in IN: R284 does not say so, but check 4 of R346 refuses a longer one (log 25). -/
def Obligations.DecryptRestoresEncryptedMessage : Prop :=
  ∀ (s t s' : State) (m : Mode) (p : Pad) (iv : Block) (msg : List Byte),
    exec .encrypt s = .next t → t.errcode = .ok → s.mode? = some m → s.pad? = some p →
    s.passInput m = some (iv, msg) → (m ≠ .cfb → p = .zero → ¬ ∃ m', msg = m' ++ [0x00#8]) →
    s'.params = s.params → s'.sched = s.sched → s'.schedValid = true → s'.config = s.config → s'.ivlen = s.ivlen →
    s'.ivBlock m = some iv → s'.msglen = t.outlen → t.outlen.toNat ≤ s.params.msgMax →
    s'.message = t.bufBytes .out t.outlen.toNat →
    ∃ u, exec .decrypt s' = .next u ∧ CompletedWith .ok s' u ∧ u.outlen = s.msglen ∧ BufHolds .out msg u

/-! ## Undefined bytes -/

/-- R38, R151, R271: a command that would consume an undef byte sets FAULT_UNDEF and still completes (that it completes is the
model's reading, log 11 and log 12), and nothing else sets it: no SCHEDULE with KEYLEN outside 4..56 (R152), no ENCRYPT or
DECRYPT whose checks fail (R271, R346), no ECB for an undef byte of IV (R35), and no other command. -/
def Obligations.UndefConsumptionIsMarked : Prop :=
  (∀ s : State, 4 ≤ s.keylen.toNat → s.keylen.toNat ≤ 56 →
    (∃ i, i < s.keylen.toNat ∧ s.bufRead .key i = none) →
    ∃ t, exec .schedule s = .next t ∧ t.faultUndef = true ∧ t.busy = false ∧ t.done = true) ∧
  (∀ (s : State) (i : Instr) (d : Dir) (m : Mode) (p : Pad),
    (i = .encrypt ∧ d = .encrypt ∨ i = .decrypt ∧ d = .decrypt) → s.checks d = .ok (m, p) →
    ((∃ j, j < s.msglen.toNat ∧ s.bufRead .inp j = none) ∨ (m ≠ .ecb ∧ ∃ j, j < 8 ∧ s.bufRead .iv j = none)) →
    ∃ t, exec i s = .next t ∧ t.faultUndef = true ∧ t.busy = false ∧ t.done = true) ∧
  (∀ (s t : State) (i : Instr), exec i s = .next t → s.faultUndef = false → t.faultUndef = true →
    (i = .schedule ∧ 4 ≤ s.keylen.toNat ∧ s.keylen.toNat ≤ 56 ∧ ∃ j, j < s.keylen.toNat ∧ s.bufRead .key j = none) ∨
    ∃ d m p, (i = .encrypt ∧ d = .encrypt ∨ i = .decrypt ∧ d = .decrypt) ∧ s.checks d = .ok (m, p) ∧
      ((∃ j, j < s.msglen.toNat ∧ s.bufRead .inp j = none) ∨ (m ≠ .ecb ∧ ∃ j, j < 8 ∧ s.bufRead .iv j = none)))

/-- R38, R58, R358: FAULT_UNDEF is sticky: no step but reset clears it, and reset does. -/
def Obligations.FaultUndefIsSticky : Prop :=
  ∀ s t : State, step s = .next t →
    (s.nextTurn.1 ≠ .reset → s.faultUndef = true → t.faultUndef = true) ∧
    (s.nextTurn.1 = .reset → t.faultUndef = false)

/-- R58, M11: the tables' value after reset is never observable: while SCHED_VALID = 0, reads do not depend on P and S, and a
command run on other tables gives the same state, or the same but for those tables. So the value log 6 names does not
matter. -/
def Obligations.InvalidTablesUnobservable : Prop :=
  ∀ (s : State) (x : Schedule), s.schedValid = false →
    (∀ off, ({ s with sched := x } : State).busRead off = s.busRead off) ∧
    (∀ i, ∃ t, exec i s = .next t ∧
      (exec i { s with sched := x } = .next t ∨ exec i { s with sched := x } = .next { t with sched := x }))

/-! ## The host window -/

/-- R92: what a read returns while BUSY = 0, for the registers; a STATUS word is
`LAST_OP << 8 | ERRCODE << 4 | OVERRUN << 2 | SCHED_VALID << 1 | BUSY`. -/
def Obligations.RegisterReadsWhileIdle : Prop :=
  ∀ s : State, s.busy = false →
    s.busRead 0x000#16 = some 0x424C4F57#32 ∧ s.busRead 0x004#16 = some 0#32 ∧
    s.busRead 0x008#16 = some ((s.lastOp.setWidth 32 <<< 8) ||| ((errBits s.errcode).setWidth 32 <<< 4) |||
      ((BitVec.ofBool s.overrun).setWidth 32 <<< 2) ||| ((BitVec.ofBool s.schedValid).setWidth 32 <<< 1)) ∧
    s.busRead 0x00C#16 = some (s.config &&& 0x0000010F#32) ∧
    s.busRead 0x010#16 = some (BitVec.ofNat 32 s.keylen.toNat) ∧
    s.busRead 0x014#16 = some (BitVec.ofNat 32 s.ivlen.toNat) ∧
    s.busRead 0x018#16 = some (BitVec.ofNat 32 s.msglen.toNat) ∧
    s.busRead 0x01C#16 = some (BitVec.ofNat 32 s.outlen.toNat) ∧
    s.busRead 0x020#16 = some (if s.done then 1#32 else 0#32) ∧
    s.busRead 0x024#16 = some s.blkL ∧ s.busRead 0x028#16 = some s.blkR

/-- R84, R87, R92: a read of a buffer word while BUSY = 0 is its four bytes, first byte in bits 31:24; a draw (`none`) if one
of them is undef; 0 past the buffer's end; and KEY reads 0. -/
def Obligations.BufferReadsWhileIdle : Prop :=
  ∀ (s : State) (j : Nat), s.busy = false →
    (j < 14 → s.busRead (BitVec.ofNat 16 (0x0040 + 4 * j)) = some 0#32) ∧
    (∀ b, b = Buf.iv ∨ b = Buf.inp ∨ b = Buf.out → 4 * j < b.size s.params →
      (∀ b0 b1 b2 b3, s.bufRead b (4 * j) = some b0 → s.bufRead b (4 * j + 1) = some b1 →
        s.bufRead b (4 * j + 2) = some b2 → s.bufRead b (4 * j + 3) = some b3 →
        s.busRead (BitVec.ofNat 16 (b.base + 4 * j)) = some (b0 ++ b1 ++ b2 ++ b3)) ∧
      ((∃ m, m < 4 ∧ s.bufRead b (4 * j + m) = none) → s.busRead (BitVec.ofNat 16 (b.base + 4 * j)) = none)) ∧
    (∀ b, b = Buf.inp ∨ b = Buf.out → b.size s.params ≤ 4 * j → j < 4096 →
      s.busRead (BitVec.ofNat 16 (b.base + 4 * j)) = some 0#32)

/-- R89: while BUSY = 1 the status and settings registers read their values, STATUS the whole word of R92 with BUSY = 1, and
the result-bearing ones are draws. -/
def Obligations.ReadsWhileBusy : Prop :=
  ∀ s : State, s.busy = true →
    s.busRead 0x000#16 = some 0x424C4F57#32 ∧ s.busRead 0x004#16 = some 0#32 ∧
    s.busRead 0x008#16 = some ((s.lastOp.setWidth 32 <<< 8) ||| ((errBits s.errcode).setWidth 32 <<< 4) |||
      ((BitVec.ofBool s.overrun).setWidth 32 <<< 2) ||| ((BitVec.ofBool s.schedValid).setWidth 32 <<< 1) ||| 1#32) ∧
    s.busRead 0x00C#16 = some (s.config &&& 0x0000010F#32) ∧
    s.busRead 0x010#16 = some (BitVec.ofNat 32 s.keylen.toNat) ∧
    s.busRead 0x014#16 = some (BitVec.ofNat 32 s.ivlen.toNat) ∧
    s.busRead 0x018#16 = some (BitVec.ofNat 32 s.msglen.toNat) ∧
    s.busRead 0x020#16 = some (if s.done then 1#32 else 0#32) ∧
    s.busRead 0x01C#16 = none ∧ s.busRead 0x024#16 = none ∧ s.busRead 0x028#16 = none ∧
    (∀ j, j < 14 → s.busRead (BitVec.ofNat 16 (0x0040 + 4 * j)) = some 0#32) ∧
    (∀ j, j < 2 → s.busRead (BitVec.ofNat 16 (0x0080 + 4 * j)) = none) ∧
    (∀ j, 4 * j < Buf.size s.params .inp → s.busRead (BitVec.ofNat 16 (0x4000 + 4 * j)) = none) ∧
    (∀ j, 4 * j < Buf.size s.params .out → s.busRead (BitVec.ofNat 16 (0x8000 + 4 * j)) = none)

/-- R88: the schedule readback windows, in both conditions of BUSY; they ignore writes. -/
def Obligations.ScheduleReadback : Prop :=
  ∀ (s : State) (i k j : Nat), i < 18 → k < 4 → j < 256 →
    let pw := s.busRead (BitVec.ofNat 16 (0x0100 + 4 * i))
    let sw := s.busRead (BitVec.ofNat 16 (0x1000 + 0x400 * k + 4 * j))
    (s.params.schedReadback = false → pw = some 0#32 ∧ sw = some 0#32) ∧
    (s.params.schedReadback = true → s.busy = true → pw = none ∧ sw = none) ∧
    (s.params.schedReadback = true → s.busy = false → s.schedValid = false → pw = some 0#32 ∧ sw = some 0#32) ∧
    (s.params.schedReadback = true → s.busy = false → s.schedValid = true →
      pw = some (s.sched.pAt i) ∧ sw = some (s.sched.sAt k j)) ∧
    (∀ v, s.hostWrite (BitVec.ofNat 16 (0x0100 + 4 * i)) v = s ∧
      s.hostWrite (BitVec.ofNat 16 (0x1000 + 0x400 * k + 4 * j)) v = s)

/-- R12, R92: a host read changes nothing but the host's own program and record, and the count of draws when it was a
draw. -/
def Obligations.ReadsHaveNoSideEffect : Prop :=
  ∀ (s : State) (off : Offset) (rest : List HostOp), s.program = HostOp.rd off :: rest → off.toNat % 4 = 0 →
    (∀ v, s.busRead off = some v →
      hostStep s = .next { s with program := rest, reads := (off, v) :: s.reads }) ∧
    (s.busRead off = none →
      hostStep s = .next { s with program := rest, reads := (off, Config.draw s.draws) :: s.reads,
                                  draws := s.draws + 1 })

/-- R91: what a write does while BUSY = 0, for the registers; ID, STATUS, OUTLEN, PWIN, SWIN and OUTWIN ignore it. -/
def Obligations.RegisterWritesWhileIdle : Prop :=
  ∀ (s : State) (v : Word), s.busy = false →
    s.hostWrite 0x00C#16 v = { s with config := v &&& 0x0000010F#32 } ∧
    s.hostWrite 0x010#16 v = { s with keylen := v.extractLsb' 0 6 } ∧
    s.hostWrite 0x014#16 v = { s with ivlen := v.extractLsb' 0 4 } ∧
    s.hostWrite 0x018#16 v = { s with msglen := v.extractLsb' 0 16 } ∧
    s.hostWrite 0x024#16 v = { s with blkL := v } ∧ s.hostWrite 0x028#16 v = { s with blkR := v } ∧
    s.hostWrite 0x000#16 v = s ∧ s.hostWrite 0x008#16 v = s ∧ s.hostWrite 0x01C#16 v = s ∧
    (∀ i, i < 18 → s.hostWrite (BitVec.ofNat 16 (0x0100 + 4 * i)) v = s) ∧
    (∀ i, i < 1024 → s.hostWrite (BitVec.ofNat 16 (0x1000 + 4 * i)) v = s) ∧
    (∀ i, i < 4096 → s.hostWrite (BitVec.ofNat 16 (0x8000 + 4 * i)) v = s)

/-- R84, R87, R91: a write to a buffer word while BUSY = 0 stores its four bytes, bits 31:24 first, and changes no other
byte and nothing else; IV and IN words read back; past IN's end it is ignored. -/
def Obligations.BufferWritesWhileIdle : Prop :=
  ∀ (s : State) (v : Word) (j : Nat), s.busy = false →
    (∀ b, b = Buf.key ∨ b = Buf.iv ∨ b = Buf.inp → 4 * j < b.size s.params →
      let t := s.hostWrite (BitVec.ofNat 16 (b.base + 4 * j)) v
      t.bufRead b (4 * j) = some (v.extractLsb' 24 8) ∧ t.bufRead b (4 * j + 1) = some (v.extractLsb' 16 8) ∧
      t.bufRead b (4 * j + 2) = some (v.extractLsb' 8 8) ∧ t.bufRead b (4 * j + 3) = some (v.extractLsb' 0 8) ∧
      (∀ a, a < b.base + 4 * j ∨ b.base + 4 * j + 4 ≤ a → Memory.read t.mem a = Memory.read s.mem a) ∧
      t = { s with mem := t.mem } ∧
      (b ≠ .key → t.busRead (BitVec.ofNat 16 (b.base + 4 * j)) = some v)) ∧
    (Buf.size s.params .inp ≤ 4 * j → j < 4096 → s.hostWrite (BitVec.ofNat 16 (0x4000 + 4 * j)) v = s)

/-- R90, R47: while BUSY = 1 a write to an input of a command is dropped and sets OVERRUN; a write to IRQ_STATUS takes effect
as ever; any other write is ignored: to a read-only register or window or a reserved offset by R90 and R86, and past the end
of IN, at 0x4000 + MSG_MAX and beyond, by R87, read as holding while BUSY = 1 as well and setting no OVERRUN (log 15). -/
def Obligations.WritesWhileBusyAreDropped : Prop :=
  ∀ (s : State) (off : Offset) (v : Word), s.busy = true → off.toNat % 4 = 0 →
    let o := off.toNat
    let isInput := o = 0x004 ∨ o = 0x00C ∨ o = 0x010 ∨ o = 0x014 ∨ o = 0x018 ∨ o = 0x024 ∨ o = 0x028 ∨
      (0x040 ≤ o ∧ o ≤ 0x074) ∨ (0x080 ≤ o ∧ o ≤ 0x084) ∨ (0x4000 ≤ o ∧ o < 0x4000 + s.params.msgMax)
    (isInput → s.hostWrite off v = { s with overrun := true }) ∧
    (¬ isInput → o ≠ 0x020 → s.hostWrite off v = s) ∧
    (o = 0x020 → s.hostWrite off v = { s with done := s.done && !v.getLsbD 0 })

/-- R86: an offset R81 does not list reads 0 and ignores writes, whether or not a command runs. -/
def Obligations.ReservedOffsetsInert : Prop :=
  ∀ (s : State) (off : Offset) (v : Word), off.toNat % 4 = 0 →
    let o := off.toNat
    ¬ (o ≤ 0x028 ∨ (0x040 ≤ o ∧ o ≤ 0x074) ∨ (0x080 ≤ o ∧ o ≤ 0x084) ∨ (0x100 ≤ o ∧ o ≤ 0x144) ∨
      (0x1000 ≤ o ∧ o ≤ 0x1FFC) ∨ (0x4000 ≤ o ∧ o ≤ 0x7FFC) ∨ (0x8000 ≤ o ∧ o ≤ 0xBFFC)) →
    s.busRead off = some 0#32 ∧ s.hostWrite off v = s

/-- R14, R93: a turn of the host is one host step. R85: its access is refused exactly when it is misaligned or not 32 bits
wide; a defined write takes effect as that one step (R91, R93, R341), and a defined read is a next step too. R127: `wait` reads
STATUS and is over when BUSY reads 0. (That the host's program and record stand in State is the model's, log 5.) -/
def Obligations.UndefinedAccessesRefused : Prop :=
  (∀ s u : State, s.nextTurn = (.host, u) → step s = hostStep u) ∧
  (∀ (s : State) (width : Nat) (off : Offset) (op : BusOp) (rest : List HostOp),
    s.program = .access width off op :: rest →
    ((width ≠ 32 ∨ off.toNat % 4 ≠ 0) → hostStep s = .refused (.undefinedAccess width off)) ∧
    (width = 32 → off.toNat % 4 = 0 →
      (∀ v, op = .write v → hostStep s = .next { s.hostWrite off v with program := rest }) ∧
      (op = .read → ∃ t, hostStep s = .next t ∧ t.program = rest))) ∧
  (∀ (s : State) (rest : List HostOp), s.program = .wait :: rest →
    hostStep s = .next { s with
      program := if s.busy then s.program else rest, reads := (0x008#16, s.statusWord) :: s.reads })

/-- R47, R48, R350: irq is CONFIG bit 8 and DONE; a write of IRQ_STATUS with bit 0 set clears DONE and nothing else, with
bit 0 clear changes nothing, whether or not a command runs. -/
def Obligations.InterruptOutputAndClear : Prop :=
  ∀ (s : State) (v : Word),
    (s.irq = true ↔ s.config.getLsbD 8 = true ∧ s.done = true) ∧
    (v.getLsbD 0 = true → s.hostWrite 0x020#16 v = { s with done := false }) ∧
    (v.getLsbD 0 = false → s.hostWrite 0x020#16 v = s)

/-- R34: no host read depends on a byte of KEY. -/
def Obligations.KeyBytesUnobservable : Prop :=
  ∀ (s : State) (m : Memory), (∀ a, ¬ InBuf s.params .key a → Memory.read m a = Memory.read s.mem a) →
    ∀ off, ({ s with mem := m } : State).busRead off = s.busRead off

/-- R84, R127: from an idle engine, running the expansion of `wrbuf 0x4000` on a message that fits leaves its bytes in IN,
with 0x00 in the rest of a final partial word, and no other byte of memory changed. The premise that no turns are listed, and
so the count of one step a word, rests on the model's scheduling: when the list is empty and BUSY = 0 the host moves (log 4). -/
def Obligations.WrbufFillsIn : Prop :=
  ∀ (s : State) (bytes : List Byte), s.busy = false → s.turns = [] → bytes.length ≤ s.params.msgMax →
    s.program = expandPseudo (.wrbuf 0x4000#16 bytes) →
    ∃ t : State, Host.Core.run Sys2Proof.core ((bytes.length + 3) / 4) s = .next t ∧ t.program = [] ∧
      (∀ i, i < 4 * ((bytes.length + 3) / 4) → t.bufRead .inp i = some (bytes.getD i 0#8)) ∧
      (∀ a, a < 0x4000 ∨ 0x4000 + 4 * ((bytes.length + 3) / 4) ≤ a → Memory.read t.mem a = Memory.read s.mem a)

/-! ## Whole-machine rules -/

/-- R122, with R31 to R37 and R41: only SCHEDULE and ZEROIZE write P, S and SCHED_VALID; IV and IN are written by no command but
ZEROIZE, KEY by SCHEDULE and ZEROIZE only, OUT by ENCRYPT, DECRYPT and ZEROIZE only. That it holds also on the path that
consumed an undef byte is the model's reading (log 11, log 12). -/
def Obligations.TableAndBufferWriters : Prop :=
  ∀ (i : Instr) (s t : State), exec i s = .next t →
    (i ≠ .schedule → i ≠ .zeroize → KeepsSchedule s t) ∧
    (i ≠ .zeroize → ∀ a, (InBuf s.params .iv a ∨ InBuf s.params .inp a) → Memory.read t.mem a = Memory.read s.mem a) ∧
    (i ≠ .zeroize → i ≠ .schedule → ∀ a, InBuf s.params .key a → Memory.read t.mem a = Memory.read s.mem a) ∧
    (i ≠ .zeroize → i ≠ .encrypt → i ≠ .decrypt → ∀ a, InBuf s.params .out a →
      Memory.read t.mem a = Memory.read s.mem a)

/-- R58, R380: reset, at power-on and as an event at any time, leaves every component the spec gives a value at that value
and every buffer byte undef; irq is 0. (P, S, CMDREG, XL and XR, which R58 leaves undef or unspecified, are not named.) -/
def Obligations.ResetValues : Prop :=
  (∃ c, State.reset = State.resetWith c ∧ c.msgMax = 4096 ∧ c.zeroPadAligned = .full ∧ c.schedReadback = true) ∧
  (∀ s u : State, s.nextTurn = (.reset, u) → ∃ t : State, step s = .next t ∧ t.params = u.params ∧
    (∀ r : State, r = t ∨ r = State.reset →
      (∀ a, Memory.read r.mem a = none) ∧ r.busy = false ∧ r.schedValid = false ∧ r.overrun = false ∧
      r.errcode = .ok ∧ r.lastOp = 0x00#8 ∧ r.config = 0#32 ∧ r.keylen = 0#6 ∧ r.ivlen = 0#4 ∧ r.msglen = 0#16 ∧
      r.outlen = 0#16 ∧ r.done = false ∧ r.blkL = 0#32 ∧ r.blkR = 0#32 ∧ r.chain = Block.zero ∧
      r.ksPhase = .idle ∧ r.ksIdx = 0#10 ∧ r.rnd = 0#5 ∧ r.blkIdx = 0#11 ∧ r.faultUndef = false ∧ r.irq = false))

/-- The invariant holds right after reset, whatever the parameters. -/
def Obligations.ResetMeetsInvariant : Prop := StateInv State.reset ∧ ∀ c : Params, StateInv (State.resetWith c)

/-- Every step of every agent keeps the invariant: the sequencing registers at rest outside their commands (R52, R53, R54;
for RND and BLK_IDX log 14 and log 16) and in range (for KS_IDX in KS_INIT and KS_DONE log 13), SCHED_VALID = 0 while SCHEDULE or ZEROIZE runs (R341), CONFIG's reserved
bits 0 (R42), memory canonical and inside the buffers (R30), SCHED_VALID = 1 only with the complete result of a SCHEDULE
(R33), OUT in the shape of R37. And it keeps the parameters (R7). -/
def Obligations.StepKeepsInvariant : Prop :=
  ∀ s t : State, StateInv s → step s = .next t → StateInv t ∧ t.params = s.params
end

