-- ==== Sys2Proof/Laws/State.lean ====
section
/-! SUPPORT. One lemma per field and named update of State, each true by unfolding the update once. -/

namespace Sys2Proof.Machine

variable (s : State)

/-! ## complete -/

@[simp] theorem State.complete_params (e : ErrCode) : (s.complete e).params = s.params := rfl
@[simp] theorem State.complete_sched (e : ErrCode) : (s.complete e).sched = s.sched := rfl
@[simp] theorem State.complete_mem (e : ErrCode) : (s.complete e).mem = s.mem := rfl
@[simp] theorem State.complete_config (e : ErrCode) : (s.complete e).config = s.config := rfl
@[simp] theorem State.complete_keylen (e : ErrCode) : (s.complete e).keylen = s.keylen := rfl
@[simp] theorem State.complete_ivlen (e : ErrCode) : (s.complete e).ivlen = s.ivlen := rfl
@[simp] theorem State.complete_msglen (e : ErrCode) : (s.complete e).msglen = s.msglen := rfl
@[simp] theorem State.complete_outlen (e : ErrCode) : (s.complete e).outlen = s.outlen := rfl
@[simp] theorem State.complete_done (e : ErrCode) : (s.complete e).done = true := rfl
@[simp] theorem State.complete_blkL (e : ErrCode) : (s.complete e).blkL = s.blkL := rfl
@[simp] theorem State.complete_blkR (e : ErrCode) : (s.complete e).blkR = s.blkR := rfl
@[simp] theorem State.complete_busy (e : ErrCode) : (s.complete e).busy = false := rfl
@[simp] theorem State.complete_schedValid (e : ErrCode) : (s.complete e).schedValid = s.schedValid := rfl
@[simp] theorem State.complete_overrun (e : ErrCode) : (s.complete e).overrun = s.overrun := rfl
@[simp] theorem State.complete_errcode (e : ErrCode) : (s.complete e).errcode = e := rfl
@[simp] theorem State.complete_lastOp (e : ErrCode) : (s.complete e).lastOp = s.cmdreg.extractLsb' 0 8 := rfl
@[simp] theorem State.complete_cmdreg (e : ErrCode) : (s.complete e).cmdreg = s.cmdreg := rfl
@[simp] theorem State.complete_xl (e : ErrCode) : (s.complete e).xl = s.xl := rfl
@[simp] theorem State.complete_xr (e : ErrCode) : (s.complete e).xr = s.xr := rfl
@[simp] theorem State.complete_chain (e : ErrCode) : (s.complete e).chain = s.chain := rfl
@[simp] theorem State.complete_ksPhase (e : ErrCode) : (s.complete e).ksPhase = KsPhase.idle := rfl
@[simp] theorem State.complete_ksIdx (e : ErrCode) : (s.complete e).ksIdx = 0#10 := rfl
@[simp] theorem State.complete_rnd (e : ErrCode) : (s.complete e).rnd = 0#5 := rfl
@[simp] theorem State.complete_blkIdx (e : ErrCode) : (s.complete e).blkIdx = 0#11 := rfl
@[simp] theorem State.complete_faultUndef (e : ErrCode) : (s.complete e).faultUndef = s.faultUndef := rfl
@[simp] theorem State.complete_draws (e : ErrCode) : (s.complete e).draws = s.draws := rfl
@[simp] theorem State.complete_program (e : ErrCode) : (s.complete e).program = s.program := rfl
@[simp] theorem State.complete_reads (e : ErrCode) : (s.complete e).reads = s.reads := rfl
@[simp] theorem State.complete_turns (e : ErrCode) : (s.complete e).turns = s.turns := rfl

/-! ## spendDatapath -/

@[simp] theorem State.spendDatapath_params : (s.spendDatapath).params = s.params := rfl
@[simp] theorem State.spendDatapath_sched : (s.spendDatapath).sched = s.sched := rfl
@[simp] theorem State.spendDatapath_mem : (s.spendDatapath).mem = s.mem := rfl
@[simp] theorem State.spendDatapath_config : (s.spendDatapath).config = s.config := rfl
@[simp] theorem State.spendDatapath_keylen : (s.spendDatapath).keylen = s.keylen := rfl
@[simp] theorem State.spendDatapath_ivlen : (s.spendDatapath).ivlen = s.ivlen := rfl
@[simp] theorem State.spendDatapath_msglen : (s.spendDatapath).msglen = s.msglen := rfl
@[simp] theorem State.spendDatapath_outlen : (s.spendDatapath).outlen = s.outlen := rfl
@[simp] theorem State.spendDatapath_done : (s.spendDatapath).done = s.done := rfl
@[simp] theorem State.spendDatapath_blkL : (s.spendDatapath).blkL = s.blkL := rfl
@[simp] theorem State.spendDatapath_blkR : (s.spendDatapath).blkR = s.blkR := rfl
@[simp] theorem State.spendDatapath_busy : (s.spendDatapath).busy = s.busy := rfl
@[simp] theorem State.spendDatapath_schedValid : (s.spendDatapath).schedValid = s.schedValid := rfl
@[simp] theorem State.spendDatapath_overrun : (s.spendDatapath).overrun = s.overrun := rfl
@[simp] theorem State.spendDatapath_errcode : (s.spendDatapath).errcode = s.errcode := rfl
@[simp] theorem State.spendDatapath_lastOp : (s.spendDatapath).lastOp = s.lastOp := rfl
@[simp] theorem State.spendDatapath_cmdreg : (s.spendDatapath).cmdreg = s.cmdreg := rfl
@[simp] theorem State.spendDatapath_xl : (s.spendDatapath).xl = Config.idleHalf s.draws := rfl
@[simp] theorem State.spendDatapath_xr : (s.spendDatapath).xr = Config.idleHalf (s.draws + 1) := rfl
@[simp] theorem State.spendDatapath_chain : (s.spendDatapath).chain = s.chain := rfl
@[simp] theorem State.spendDatapath_ksPhase : (s.spendDatapath).ksPhase = s.ksPhase := rfl
@[simp] theorem State.spendDatapath_ksIdx : (s.spendDatapath).ksIdx = s.ksIdx := rfl
@[simp] theorem State.spendDatapath_rnd : (s.spendDatapath).rnd = s.rnd := rfl
@[simp] theorem State.spendDatapath_blkIdx : (s.spendDatapath).blkIdx = s.blkIdx := rfl
@[simp] theorem State.spendDatapath_faultUndef : (s.spendDatapath).faultUndef = s.faultUndef := rfl
@[simp] theorem State.spendDatapath_draws : (s.spendDatapath).draws = s.draws + 2 := rfl
@[simp] theorem State.spendDatapath_program : (s.spendDatapath).program = s.program := rfl
@[simp] theorem State.spendDatapath_reads : (s.spendDatapath).reads = s.reads := rfl
@[simp] theorem State.spendDatapath_turns : (s.spendDatapath).turns = s.turns := rfl

/-! ## bufWrite -/

@[simp] theorem State.bufWrite_params (b : Buf) (i : Nat) (bs : List Byte) : (s.bufWrite b i bs).params = s.params := rfl
@[simp] theorem State.bufWrite_sched (b : Buf) (i : Nat) (bs : List Byte) : (s.bufWrite b i bs).sched = s.sched := rfl
@[simp] theorem State.bufWrite_mem (b : Buf) (i : Nat) (bs : List Byte) : (s.bufWrite b i bs).mem = Memory.write s.mem (b.base + i) bs := rfl
@[simp] theorem State.bufWrite_config (b : Buf) (i : Nat) (bs : List Byte) : (s.bufWrite b i bs).config = s.config := rfl
@[simp] theorem State.bufWrite_keylen (b : Buf) (i : Nat) (bs : List Byte) : (s.bufWrite b i bs).keylen = s.keylen := rfl
@[simp] theorem State.bufWrite_ivlen (b : Buf) (i : Nat) (bs : List Byte) : (s.bufWrite b i bs).ivlen = s.ivlen := rfl
@[simp] theorem State.bufWrite_msglen (b : Buf) (i : Nat) (bs : List Byte) : (s.bufWrite b i bs).msglen = s.msglen := rfl
@[simp] theorem State.bufWrite_outlen (b : Buf) (i : Nat) (bs : List Byte) : (s.bufWrite b i bs).outlen = s.outlen := rfl
@[simp] theorem State.bufWrite_done (b : Buf) (i : Nat) (bs : List Byte) : (s.bufWrite b i bs).done = s.done := rfl
@[simp] theorem State.bufWrite_blkL (b : Buf) (i : Nat) (bs : List Byte) : (s.bufWrite b i bs).blkL = s.blkL := rfl
@[simp] theorem State.bufWrite_blkR (b : Buf) (i : Nat) (bs : List Byte) : (s.bufWrite b i bs).blkR = s.blkR := rfl
@[simp] theorem State.bufWrite_busy (b : Buf) (i : Nat) (bs : List Byte) : (s.bufWrite b i bs).busy = s.busy := rfl
@[simp] theorem State.bufWrite_schedValid (b : Buf) (i : Nat) (bs : List Byte) : (s.bufWrite b i bs).schedValid = s.schedValid := rfl
@[simp] theorem State.bufWrite_overrun (b : Buf) (i : Nat) (bs : List Byte) : (s.bufWrite b i bs).overrun = s.overrun := rfl
@[simp] theorem State.bufWrite_errcode (b : Buf) (i : Nat) (bs : List Byte) : (s.bufWrite b i bs).errcode = s.errcode := rfl
@[simp] theorem State.bufWrite_lastOp (b : Buf) (i : Nat) (bs : List Byte) : (s.bufWrite b i bs).lastOp = s.lastOp := rfl
@[simp] theorem State.bufWrite_cmdreg (b : Buf) (i : Nat) (bs : List Byte) : (s.bufWrite b i bs).cmdreg = s.cmdreg := rfl
@[simp] theorem State.bufWrite_xl (b : Buf) (i : Nat) (bs : List Byte) : (s.bufWrite b i bs).xl = s.xl := rfl
@[simp] theorem State.bufWrite_xr (b : Buf) (i : Nat) (bs : List Byte) : (s.bufWrite b i bs).xr = s.xr := rfl
@[simp] theorem State.bufWrite_chain (b : Buf) (i : Nat) (bs : List Byte) : (s.bufWrite b i bs).chain = s.chain := rfl
@[simp] theorem State.bufWrite_ksPhase (b : Buf) (i : Nat) (bs : List Byte) : (s.bufWrite b i bs).ksPhase = s.ksPhase := rfl
@[simp] theorem State.bufWrite_ksIdx (b : Buf) (i : Nat) (bs : List Byte) : (s.bufWrite b i bs).ksIdx = s.ksIdx := rfl
@[simp] theorem State.bufWrite_rnd (b : Buf) (i : Nat) (bs : List Byte) : (s.bufWrite b i bs).rnd = s.rnd := rfl
@[simp] theorem State.bufWrite_blkIdx (b : Buf) (i : Nat) (bs : List Byte) : (s.bufWrite b i bs).blkIdx = s.blkIdx := rfl
@[simp] theorem State.bufWrite_faultUndef (b : Buf) (i : Nat) (bs : List Byte) : (s.bufWrite b i bs).faultUndef = s.faultUndef := rfl
@[simp] theorem State.bufWrite_draws (b : Buf) (i : Nat) (bs : List Byte) : (s.bufWrite b i bs).draws = s.draws := rfl
@[simp] theorem State.bufWrite_program (b : Buf) (i : Nat) (bs : List Byte) : (s.bufWrite b i bs).program = s.program := rfl
@[simp] theorem State.bufWrite_reads (b : Buf) (i : Nat) (bs : List Byte) : (s.bufWrite b i bs).reads = s.reads := rfl
@[simp] theorem State.bufWrite_turns (b : Buf) (i : Nat) (bs : List Byte) : (s.bufWrite b i bs).turns = s.turns := rfl

/-! ## bufClear -/

@[simp] theorem State.bufClear_params (b : Buf) : (s.bufClear b).params = s.params := rfl
@[simp] theorem State.bufClear_sched (b : Buf) : (s.bufClear b).sched = s.sched := rfl
@[simp] theorem State.bufClear_mem (b : Buf) : (s.bufClear b).mem = Memory.write s.mem b.base (zeros (b.size s.params)) := rfl
@[simp] theorem State.bufClear_config (b : Buf) : (s.bufClear b).config = s.config := rfl
@[simp] theorem State.bufClear_keylen (b : Buf) : (s.bufClear b).keylen = s.keylen := rfl
@[simp] theorem State.bufClear_ivlen (b : Buf) : (s.bufClear b).ivlen = s.ivlen := rfl
@[simp] theorem State.bufClear_msglen (b : Buf) : (s.bufClear b).msglen = s.msglen := rfl
@[simp] theorem State.bufClear_outlen (b : Buf) : (s.bufClear b).outlen = s.outlen := rfl
@[simp] theorem State.bufClear_done (b : Buf) : (s.bufClear b).done = s.done := rfl
@[simp] theorem State.bufClear_blkL (b : Buf) : (s.bufClear b).blkL = s.blkL := rfl
@[simp] theorem State.bufClear_blkR (b : Buf) : (s.bufClear b).blkR = s.blkR := rfl
@[simp] theorem State.bufClear_busy (b : Buf) : (s.bufClear b).busy = s.busy := rfl
@[simp] theorem State.bufClear_schedValid (b : Buf) : (s.bufClear b).schedValid = s.schedValid := rfl
@[simp] theorem State.bufClear_overrun (b : Buf) : (s.bufClear b).overrun = s.overrun := rfl
@[simp] theorem State.bufClear_errcode (b : Buf) : (s.bufClear b).errcode = s.errcode := rfl
@[simp] theorem State.bufClear_lastOp (b : Buf) : (s.bufClear b).lastOp = s.lastOp := rfl
@[simp] theorem State.bufClear_cmdreg (b : Buf) : (s.bufClear b).cmdreg = s.cmdreg := rfl
@[simp] theorem State.bufClear_xl (b : Buf) : (s.bufClear b).xl = s.xl := rfl
@[simp] theorem State.bufClear_xr (b : Buf) : (s.bufClear b).xr = s.xr := rfl
@[simp] theorem State.bufClear_chain (b : Buf) : (s.bufClear b).chain = s.chain := rfl
@[simp] theorem State.bufClear_ksPhase (b : Buf) : (s.bufClear b).ksPhase = s.ksPhase := rfl
@[simp] theorem State.bufClear_ksIdx (b : Buf) : (s.bufClear b).ksIdx = s.ksIdx := rfl
@[simp] theorem State.bufClear_rnd (b : Buf) : (s.bufClear b).rnd = s.rnd := rfl
@[simp] theorem State.bufClear_blkIdx (b : Buf) : (s.bufClear b).blkIdx = s.blkIdx := rfl
@[simp] theorem State.bufClear_faultUndef (b : Buf) : (s.bufClear b).faultUndef = s.faultUndef := rfl
@[simp] theorem State.bufClear_draws (b : Buf) : (s.bufClear b).draws = s.draws := rfl
@[simp] theorem State.bufClear_program (b : Buf) : (s.bufClear b).program = s.program := rfl
@[simp] theorem State.bufClear_reads (b : Buf) : (s.bufClear b).reads = s.reads := rfl
@[simp] theorem State.bufClear_turns (b : Buf) : (s.bufClear b).turns = s.turns := rfl

/-! ## bufUndef -/

@[simp] theorem State.bufUndef_params (b : Buf) : (s.bufUndef b).params = s.params := rfl
@[simp] theorem State.bufUndef_sched (b : Buf) : (s.bufUndef b).sched = s.sched := rfl
@[simp] theorem State.bufUndef_mem (b : Buf) : (s.bufUndef b).mem = Memory.erase s.mem b.base (b.size s.params) := rfl
@[simp] theorem State.bufUndef_config (b : Buf) : (s.bufUndef b).config = s.config := rfl
@[simp] theorem State.bufUndef_keylen (b : Buf) : (s.bufUndef b).keylen = s.keylen := rfl
@[simp] theorem State.bufUndef_ivlen (b : Buf) : (s.bufUndef b).ivlen = s.ivlen := rfl
@[simp] theorem State.bufUndef_msglen (b : Buf) : (s.bufUndef b).msglen = s.msglen := rfl
@[simp] theorem State.bufUndef_outlen (b : Buf) : (s.bufUndef b).outlen = s.outlen := rfl
@[simp] theorem State.bufUndef_done (b : Buf) : (s.bufUndef b).done = s.done := rfl
@[simp] theorem State.bufUndef_blkL (b : Buf) : (s.bufUndef b).blkL = s.blkL := rfl
@[simp] theorem State.bufUndef_blkR (b : Buf) : (s.bufUndef b).blkR = s.blkR := rfl
@[simp] theorem State.bufUndef_busy (b : Buf) : (s.bufUndef b).busy = s.busy := rfl
@[simp] theorem State.bufUndef_schedValid (b : Buf) : (s.bufUndef b).schedValid = s.schedValid := rfl
@[simp] theorem State.bufUndef_overrun (b : Buf) : (s.bufUndef b).overrun = s.overrun := rfl
@[simp] theorem State.bufUndef_errcode (b : Buf) : (s.bufUndef b).errcode = s.errcode := rfl
@[simp] theorem State.bufUndef_lastOp (b : Buf) : (s.bufUndef b).lastOp = s.lastOp := rfl
@[simp] theorem State.bufUndef_cmdreg (b : Buf) : (s.bufUndef b).cmdreg = s.cmdreg := rfl
@[simp] theorem State.bufUndef_xl (b : Buf) : (s.bufUndef b).xl = s.xl := rfl
@[simp] theorem State.bufUndef_xr (b : Buf) : (s.bufUndef b).xr = s.xr := rfl
@[simp] theorem State.bufUndef_chain (b : Buf) : (s.bufUndef b).chain = s.chain := rfl
@[simp] theorem State.bufUndef_ksPhase (b : Buf) : (s.bufUndef b).ksPhase = s.ksPhase := rfl
@[simp] theorem State.bufUndef_ksIdx (b : Buf) : (s.bufUndef b).ksIdx = s.ksIdx := rfl
@[simp] theorem State.bufUndef_rnd (b : Buf) : (s.bufUndef b).rnd = s.rnd := rfl
@[simp] theorem State.bufUndef_blkIdx (b : Buf) : (s.bufUndef b).blkIdx = s.blkIdx := rfl
@[simp] theorem State.bufUndef_faultUndef (b : Buf) : (s.bufUndef b).faultUndef = s.faultUndef := rfl
@[simp] theorem State.bufUndef_draws (b : Buf) : (s.bufUndef b).draws = s.draws := rfl
@[simp] theorem State.bufUndef_program (b : Buf) : (s.bufUndef b).program = s.program := rfl
@[simp] theorem State.bufUndef_reads (b : Buf) : (s.bufUndef b).reads = s.reads := rfl
@[simp] theorem State.bufUndef_turns (b : Buf) : (s.bufUndef b).turns = s.turns := rfl

/-! ## commit -/

@[simp] theorem State.commit_params (r : List Byte) : (s.commit r).params = s.params := rfl
@[simp] theorem State.commit_sched (r : List Byte) : (s.commit r).sched = s.sched := rfl
@[simp] theorem State.commit_mem (r : List Byte) : (s.commit r).mem = Memory.write s.mem (Buf.base .out) (r ++ zeros (Buf.size s.params .out - r.length)) := rfl
@[simp] theorem State.commit_config (r : List Byte) : (s.commit r).config = s.config := rfl
@[simp] theorem State.commit_keylen (r : List Byte) : (s.commit r).keylen = s.keylen := rfl
@[simp] theorem State.commit_ivlen (r : List Byte) : (s.commit r).ivlen = s.ivlen := rfl
@[simp] theorem State.commit_msglen (r : List Byte) : (s.commit r).msglen = s.msglen := rfl
@[simp] theorem State.commit_outlen (r : List Byte) : (s.commit r).outlen = BitVec.ofNat 16 r.length := rfl
@[simp] theorem State.commit_done (r : List Byte) : (s.commit r).done = s.done := rfl
@[simp] theorem State.commit_blkL (r : List Byte) : (s.commit r).blkL = s.blkL := rfl
@[simp] theorem State.commit_blkR (r : List Byte) : (s.commit r).blkR = s.blkR := rfl
@[simp] theorem State.commit_busy (r : List Byte) : (s.commit r).busy = s.busy := rfl
@[simp] theorem State.commit_schedValid (r : List Byte) : (s.commit r).schedValid = s.schedValid := rfl
@[simp] theorem State.commit_overrun (r : List Byte) : (s.commit r).overrun = s.overrun := rfl
@[simp] theorem State.commit_errcode (r : List Byte) : (s.commit r).errcode = s.errcode := rfl
@[simp] theorem State.commit_lastOp (r : List Byte) : (s.commit r).lastOp = s.lastOp := rfl
@[simp] theorem State.commit_cmdreg (r : List Byte) : (s.commit r).cmdreg = s.cmdreg := rfl
@[simp] theorem State.commit_xl (r : List Byte) : (s.commit r).xl = s.xl := rfl
@[simp] theorem State.commit_xr (r : List Byte) : (s.commit r).xr = s.xr := rfl
@[simp] theorem State.commit_chain (r : List Byte) : (s.commit r).chain = Block.zero := rfl
@[simp] theorem State.commit_ksPhase (r : List Byte) : (s.commit r).ksPhase = s.ksPhase := rfl
@[simp] theorem State.commit_ksIdx (r : List Byte) : (s.commit r).ksIdx = s.ksIdx := rfl
@[simp] theorem State.commit_rnd (r : List Byte) : (s.commit r).rnd = s.rnd := rfl
@[simp] theorem State.commit_blkIdx (r : List Byte) : (s.commit r).blkIdx = s.blkIdx := rfl
@[simp] theorem State.commit_faultUndef (r : List Byte) : (s.commit r).faultUndef = s.faultUndef := rfl
@[simp] theorem State.commit_draws (r : List Byte) : (s.commit r).draws = s.draws := rfl
@[simp] theorem State.commit_program (r : List Byte) : (s.commit r).program = s.program := rfl
@[simp] theorem State.commit_reads (r : List Byte) : (s.commit r).reads = s.reads := rfl
@[simp] theorem State.commit_turns (r : List Byte) : (s.commit r).turns = s.turns := rfl

/-! ## commitError -/

@[simp] theorem State.commitError_params : (s.commitError).params = s.params := rfl
@[simp] theorem State.commitError_sched : (s.commitError).sched = s.sched := rfl
@[simp] theorem State.commitError_mem : (s.commitError).mem = Memory.write s.mem (Buf.base .out) (zeros (Buf.size s.params .out)) := rfl
@[simp] theorem State.commitError_config : (s.commitError).config = s.config := rfl
@[simp] theorem State.commitError_keylen : (s.commitError).keylen = s.keylen := rfl
@[simp] theorem State.commitError_ivlen : (s.commitError).ivlen = s.ivlen := rfl
@[simp] theorem State.commitError_msglen : (s.commitError).msglen = s.msglen := rfl
@[simp] theorem State.commitError_outlen : (s.commitError).outlen = 0#16 := rfl
@[simp] theorem State.commitError_done : (s.commitError).done = s.done := rfl
@[simp] theorem State.commitError_blkL : (s.commitError).blkL = s.blkL := rfl
@[simp] theorem State.commitError_blkR : (s.commitError).blkR = s.blkR := rfl
@[simp] theorem State.commitError_busy : (s.commitError).busy = s.busy := rfl
@[simp] theorem State.commitError_schedValid : (s.commitError).schedValid = s.schedValid := rfl
@[simp] theorem State.commitError_overrun : (s.commitError).overrun = s.overrun := rfl
@[simp] theorem State.commitError_errcode : (s.commitError).errcode = s.errcode := rfl
@[simp] theorem State.commitError_lastOp : (s.commitError).lastOp = s.lastOp := rfl
@[simp] theorem State.commitError_cmdreg : (s.commitError).cmdreg = s.cmdreg := rfl
@[simp] theorem State.commitError_xl : (s.commitError).xl = s.xl := rfl
@[simp] theorem State.commitError_xr : (s.commitError).xr = s.xr := rfl
@[simp] theorem State.commitError_chain : (s.commitError).chain = Block.zero := rfl
@[simp] theorem State.commitError_ksPhase : (s.commitError).ksPhase = s.ksPhase := rfl
@[simp] theorem State.commitError_ksIdx : (s.commitError).ksIdx = s.ksIdx := rfl
@[simp] theorem State.commitError_rnd : (s.commitError).rnd = s.rnd := rfl
@[simp] theorem State.commitError_blkIdx : (s.commitError).blkIdx = s.blkIdx := rfl
@[simp] theorem State.commitError_faultUndef : (s.commitError).faultUndef = s.faultUndef := rfl
@[simp] theorem State.commitError_draws : (s.commitError).draws = s.draws := rfl
@[simp] theorem State.commitError_program : (s.commitError).program = s.program := rfl
@[simp] theorem State.commitError_reads : (s.commitError).reads = s.reads := rfl
@[simp] theorem State.commitError_turns : (s.commitError).turns = s.turns := rfl

/-! ## issue -/

@[simp] theorem State.issue_params (v : Word) : (s.issue v).params = s.params := rfl
@[simp] theorem State.issue_sched (v : Word) : (s.issue v).sched = s.sched := rfl
@[simp] theorem State.issue_mem (v : Word) : (s.issue v).mem = s.mem := rfl
@[simp] theorem State.issue_config (v : Word) : (s.issue v).config = s.config := rfl
@[simp] theorem State.issue_keylen (v : Word) : (s.issue v).keylen = s.keylen := rfl
@[simp] theorem State.issue_ivlen (v : Word) : (s.issue v).ivlen = s.ivlen := rfl
@[simp] theorem State.issue_msglen (v : Word) : (s.issue v).msglen = s.msglen := rfl
@[simp] theorem State.issue_outlen (v : Word) : (s.issue v).outlen = s.outlen := rfl
@[simp] theorem State.issue_done (v : Word) : (s.issue v).done = s.done := rfl
@[simp] theorem State.issue_blkL (v : Word) : (s.issue v).blkL = s.blkL := rfl
@[simp] theorem State.issue_blkR (v : Word) : (s.issue v).blkR = s.blkR := rfl
@[simp] theorem State.issue_busy (v : Word) : (s.issue v).busy = true := rfl
@[simp] theorem State.issue_overrun (v : Word) : (s.issue v).overrun = s.overrun := rfl
@[simp] theorem State.issue_errcode (v : Word) : (s.issue v).errcode = s.errcode := rfl
@[simp] theorem State.issue_lastOp (v : Word) : (s.issue v).lastOp = s.lastOp := rfl
@[simp] theorem State.issue_cmdreg (v : Word) : (s.issue v).cmdreg = v := rfl
@[simp] theorem State.issue_xl (v : Word) : (s.issue v).xl = s.xl := rfl
@[simp] theorem State.issue_xr (v : Word) : (s.issue v).xr = s.xr := rfl
@[simp] theorem State.issue_chain (v : Word) : (s.issue v).chain = s.chain := rfl
@[simp] theorem State.issue_ksIdx (v : Word) : (s.issue v).ksIdx = s.ksIdx := rfl
@[simp] theorem State.issue_rnd (v : Word) : (s.issue v).rnd = s.rnd := rfl
@[simp] theorem State.issue_blkIdx (v : Word) : (s.issue v).blkIdx = s.blkIdx := rfl
@[simp] theorem State.issue_faultUndef (v : Word) : (s.issue v).faultUndef = s.faultUndef := rfl
@[simp] theorem State.issue_draws (v : Word) : (s.issue v).draws = s.draws := rfl
@[simp] theorem State.issue_program (v : Word) : (s.issue v).program = s.program := rfl
@[simp] theorem State.issue_reads (v : Word) : (s.issue v).reads = s.reads := rfl
@[simp] theorem State.issue_turns (v : Word) : (s.issue v).turns = s.turns := rfl

end Sys2Proof.Machine
end

