-- ==== Sys2Proof/Laws/Memory.lean ====
section
/-! SUPPORT. The laws of memory: what a read gives after a write or an erase, that both keep the canonical form, and what
reading a range means. -/

namespace Sys2Proof.Machine

theorem Memory.read_append (m₁ m₂ : Memory) (x : Nat) :
    Memory.read (m₁ ++ m₂) x = (Memory.read m₁ x).or (Memory.read m₂ x) := by
  induction m₁ with
  | nil => simp [Memory.read]
  | cons c rest ih =>
    obtain ⟨a, b⟩ := c
    by_cases h : a = x <;> simp [Memory.read, h, ih]

/-- Reading from the part of a memory that a test on addresses selects. -/
theorem Memory.read_filter (m : Memory) (p : Nat → Bool) (x : Nat) :
    Memory.read (m.filter (fun c => p c.1)) x = if p x then Memory.read m x else none := by
  induction m with
  | nil => simp [Memory.read]
  | cons c rest ih =>
    obtain ⟨a, b⟩ := c
    by_cases hp : p a <;> by_cases ha : a = x
    · subst ha; simp [Memory.read, hp]
    · simp [Memory.read, hp, ha, ih]
    · subst ha; simp [hp, ih]
    · simp [Memory.read, hp, ha, ih]

theorem Memory.read_cells (a : Nat) (bs : List Byte) (x : Nat) :
    Memory.read (Memory.cells a bs) x = if a ≤ x then bs[x - a]? else none := by
  induction bs generalizing a with
  | nil => simp [Memory.cells, Memory.read]
  | cons b rest ih =>
    by_cases h : a = x
    · subst h; simp [Memory.cells, Memory.read]
    · simp only [Memory.cells, Memory.read, h, if_false, ih]
      by_cases h1 : a + 1 ≤ x
      · have : x - a = (x - (a + 1)) + 1 := by omega
        rw [if_pos h1, if_pos (by omega), this, List.getElem?_cons_succ]
      · rw [if_neg h1, if_neg (by omega)]

/-- A read after a write: the stored byte inside the range, the old byte outside it. -/
theorem Memory.read_write (m : Memory) (a : Nat) (bs : List Byte) (x : Nat) :
    Memory.read (Memory.write m a bs) x = if a ≤ x ∧ x < a + bs.length then bs[x - a]? else Memory.read m x := by
  have h1 := Memory.read_filter m (fun y => decide (y < a)) x
  have h2 := Memory.read_filter m (fun y => decide (a + bs.length ≤ y)) x
  rw [Memory.write, Memory.read_append, Memory.read_append, h1, h2, Memory.read_cells]
  by_cases hl : x < a
  · have : ¬ a ≤ x := by omega
    have h3 : ¬ a + bs.length ≤ x := by omega
    simp [hl, this, h3]
  · by_cases hr : x < a + bs.length
    · have h3 : ¬ a + bs.length ≤ x := by omega
      have h4 : a ≤ x := by omega
      simp [hl, h3, h4, hr]
    · have h3 : a + bs.length ≤ x := by omega
      have h4 : a ≤ x := by omega
      have h5 : bs[x - a]? = none := by rw [List.getElem?_eq_none_iff]; omega
      simp [hl, h3, h4, h5, hr]

theorem Memory.read_write_outside {m : Memory} {a : Nat} {bs : List Byte} {x : Nat}
    (h : x < a ∨ a + bs.length ≤ x) : Memory.read (Memory.write m a bs) x = Memory.read m x := by
  rw [Memory.read_write, if_neg (by omega)]

theorem Memory.read_write_inside {m : Memory} {a : Nat} {bs : List Byte} {i : Nat} (h : i < bs.length) :
    Memory.read (Memory.write m a bs) (a + i) = some (bs[i]) := by
  rw [Memory.read_write, if_pos (by omega), Nat.add_sub_cancel_left, List.getElem?_eq_getElem h]

/-- A read after an erase: nothing inside the range, the old byte outside it. -/
theorem Memory.read_erase (m : Memory) (a n x : Nat) :
    Memory.read (Memory.erase m a n) x = if a ≤ x ∧ x < a + n then none else Memory.read m x := by
  have h1 := Memory.read_filter m (fun y => decide (y < a)) x
  have h2 := Memory.read_filter m (fun y => decide (a + n ≤ y)) x
  rw [Memory.erase, Memory.read_append, h1, h2]
  by_cases hl : x < a
  · have h3 : ¬ a + n ≤ x := by omega
    have : ¬ a ≤ x := by omega
    simp [hl, this, h3]
  · by_cases hr : x < a + n
    · have h3 : ¬ a + n ≤ x := by omega
      have : a ≤ x := by omega
      simp [hl, h3, this, hr]
    · have h3 : a + n ≤ x := by omega
      simp [hl, h3, hr]

theorem Memory.mem_cells {a : Nat} {bs : List Byte} {c : Host.Cell} (h : c ∈ Memory.cells a bs) :
    a ≤ c.1 ∧ c.1 < a + bs.length := by
  induction bs generalizing a with
  | nil => simp [Memory.cells] at h
  | cons b rest ih =>
    simp only [Memory.cells, List.mem_cons] at h
    rcases h with rfl | h
    · simp
    · have := ih h; simp only [List.length_cons]; omega

theorem Memory.wf_nil : Memory.wf [] := List.Pairwise.nil

theorem Memory.wf_cells (a : Nat) (bs : List Byte) : Memory.wf (Memory.cells a bs) := by
  induction bs generalizing a with
  | nil => exact List.Pairwise.nil
  | cons b rest ih =>
    refine List.Pairwise.cons (fun c hc => ?_) (ih (a + 1))
    have := Memory.mem_cells hc
    show a < c.1
    omega

/-- Every store keeps the canonical form. -/
theorem Memory.wf_write {m : Memory} (h : Memory.wf m) (a : Nat) (bs : List Byte) :
    Memory.wf (Memory.write m a bs) := by
  have hl := List.Pairwise.filter (fun c : Host.Cell => decide (c.1 < a)) h
  have hr := List.Pairwise.filter (fun c : Host.Cell => decide (a + bs.length ≤ c.1)) h
  refine List.pairwise_append.2 ⟨List.pairwise_append.2 ⟨hl, Memory.wf_cells a bs, ?_⟩, hr, ?_⟩
  · intro x hx y hy
    have := Memory.mem_cells hy
    simp only [List.mem_filter, decide_eq_true_eq] at hx
    omega
  · intro x hx y hy
    simp only [List.mem_filter, decide_eq_true_eq] at hy
    rcases List.mem_append.1 hx with hx | hx
    · simp only [List.mem_filter, decide_eq_true_eq] at hx
      omega
    · have := Memory.mem_cells hx
      omega

/-- Erasing keeps the canonical form. -/
theorem Memory.wf_erase {m : Memory} (h : Memory.wf m) (a n : Nat) : Memory.wf (Memory.erase m a n) := by
  have hl := List.Pairwise.filter (fun c : Host.Cell => decide (c.1 < a)) h
  have hr := List.Pairwise.filter (fun c : Host.Cell => decide (a + n ≤ c.1)) h
  refine List.pairwise_append.2 ⟨hl, hr, ?_⟩
  intro x hx y hy
  simp only [List.mem_filter, decide_eq_true_eq] at hx hy
  omega

/-- A cell of a written memory is a stored byte or an old cell outside the range. -/
theorem Memory.mem_write {m : Memory} {a : Nat} {bs : List Byte} {c : Host.Cell} (h : c ∈ Memory.write m a bs) :
    (a ≤ c.1 ∧ c.1 < a + bs.length) ∨ c ∈ m := by
  rcases List.mem_append.1 h with h | h
  · rcases List.mem_append.1 h with h | h
    · exact .inr (List.mem_filter.1 h).1
    · exact .inl (Memory.mem_cells h)
  · exact .inr (List.mem_filter.1 h).1

theorem Memory.mem_erase {m : Memory} {a n : Nat} {c : Host.Cell} (h : c ∈ Memory.erase m a n) : c ∈ m := by
  rcases List.mem_append.1 h with h | h <;> exact (List.mem_filter.1 h).1

/-- A range reads as `bs` exactly when each of its bytes does. -/
theorem Memory.readRange_eq_some {m : Memory} {a n : Nat} {bs : List Byte} :
    Memory.readRange m a n = some bs ↔ bs.length = n ∧ ∀ i, i < n → Memory.read m (a + i) = bs[i]? := by
  induction n generalizing a bs with
  | zero =>
    simp only [Memory.readRange, Option.some.injEq]
    constructor
    · rintro rfl; simp
    · rintro ⟨h, -⟩; exact (List.length_eq_zero_iff.1 h).symm
  | succ n ih =>
    constructor
    · intro h
      rw [Memory.readRange] at h
      split at h
      · rename_i b rest hb hrest
        obtain rfl := Option.some.inj h
        obtain ⟨hlen, hall⟩ := ih.1 hrest
        refine ⟨by simp [hlen], fun i hi => ?_⟩
        cases i with
        | zero => simpa using hb
        | succ j =>
          have := hall j (by omega)
          rw [List.getElem?_cons_succ, ← this, show a + (j + 1) = a + 1 + j by omega]
      · exact absurd h (by simp)
    · rintro ⟨hlen, hall⟩
      cases bs with
      | nil => simp at hlen
      | cons b rest =>
        have hb : Memory.read m a = some b := by simpa using hall 0 (by omega)
        have hrest : Memory.readRange m (a + 1) n = some rest := by
          refine ih.2 ⟨by simpa using hlen, fun i hi => ?_⟩
          have := hall (i + 1) (by omega)
          rwa [List.getElem?_cons_succ, show a + (i + 1) = a + 1 + i by omega] at this
        simp [Memory.readRange, hb, hrest]

/-- A range has no value exactly when one of its bytes is undef (R38). -/
theorem Memory.readRange_eq_none {m : Memory} {a n : Nat} :
    Memory.readRange m a n = none ↔ ∃ i, i < n ∧ Memory.read m (a + i) = none := by
  induction n generalizing a with
  | zero => simp [Memory.readRange]
  | succ n ih =>
    rw [Memory.readRange]
    constructor
    · intro h
      rcases hb : Memory.read m a with _ | b
      · exact ⟨0, by omega, hb⟩
      rcases hr : Memory.readRange m (a + 1) n with _ | rest
      · obtain ⟨i, hi, hn⟩ := ih.1 hr
        exact ⟨i + 1, by omega, by rwa [show a + (i + 1) = a + 1 + i by omega]⟩
      · simp [hb, hr] at h
    · rintro ⟨i, hi, hn⟩
      cases i with
      | zero => rw [Nat.add_zero] at hn; simp [hn]
      | succ i =>
        have hr : Memory.readRange m (a + 1) n = none :=
          ih.2 ⟨i, by omega, by rwa [show a + (i + 1) = a + 1 + i by omega] at hn⟩
        split
        · rename_i hs; rw [hr] at hs; cases hs
        · rfl

/-- Two memories that agree on a range read the same range. -/
theorem Memory.readRange_congr {m m' : Memory} {a n : Nat}
    (h : ∀ i, i < n → Memory.read m' (a + i) = Memory.read m (a + i)) :
    Memory.readRange m' a n = Memory.readRange m a n := by
  induction n generalizing a with
  | zero => rfl
  | succ n ih =>
    have h0 := h 0 (by omega)
    have ih' : Memory.readRange m' (a + 1) n = Memory.readRange m (a + 1) n :=
      ih fun i hi => by have := h (i + 1) (by omega); rwa [show a + (i + 1) = a + 1 + i by omega] at this
    rw [Nat.add_zero] at h0
    simp only [Memory.readRange, h0, ih']

end Sys2Proof.Machine
end

