-- ==== Sys2Proof/Laws/Step.lean ====
section
/-! SUPPORT. What each shared operation and each agent's step can do, said once: the outcomes of the commands' shared bodies,
of the host's step, and of `step`. -/

namespace Sys2Proof.Machine

/-! ## The interleaving -/

theorem State.nextTurn_nil {s : State} (h : s.turns = []) : s.nextTurn = (s.defaultTurn, s) := by
  simp [State.nextTurn, h]

theorem State.nextTurn_cons {s : State} {t : Turn} {rest : List Turn} (h : s.turns = t :: rest) :
    s.nextTurn = (t, { s with turns := rest }) := by
  simp [State.nextTurn, h]

/-- Taking a turn off the interleaving changes only the interleaving. -/
theorem State.nextTurn_snd (s : State) : s.nextTurn.2 = { s with turns := s.turns.tail } := by
  rcases h : s.turns with _ | ⟨t, rest⟩
  · obtain ⟨⟩ := s; simp_all [State.nextTurn]
  · simp [State.nextTurn_cons h]

/-! ## Checks -/

/-- The checks pass exactly when R346 finds nothing to report. -/
theorem State.checks_eq_ok {d : Dir} {s : State} {m : Mode} {p : Pad} :
    s.checks d = .ok (m, p) ↔
      s.mode? = some m ∧ s.pad? = some p ∧ s.schedValid = true ∧ (usesIv m = true → s.ivlen = 8#4) ∧
        s.msglen.toNat ≤ s.params.msgMax ∧
        (blockAligned m = true → (d = .decrypt ∨ p = .none) → s.msglen.toNat % 8 = 0) := by
  unfold State.checks
  rcases hm : s.mode? with _ | m' <;> rcases hp : s.pad? with _ | p' <;> simp only [] <;>
    try (constructor <;> intro h <;> simp_all; done)
  split
  · constructor <;> intro h <;> simp_all
  split
  · rename_i h; constructor
    · intro h'; simp at h'
    · rintro ⟨hm', -, -, h', -⟩; cases hm'; exact absurd (h' h.1) h.2
  split
  · rename_i h; constructor
    · intro h'; simp at h'
    · rintro ⟨-, -, -, -, h', -⟩; omega
  split
  · rename_i h; constructor
    · intro h'; simp at h'
    · rintro ⟨hm', hp', -, -, -, h'⟩
      cases hm'; cases hp'
      exact absurd (h' h.1 h.2.2) h.2.1
  · rename_i h1 h2 h3 h4
    constructor
    · intro h
      simp only [Except.ok.injEq, Prod.mk.injEq] at h
      obtain ⟨rfl, rfl⟩ := h
      refine ⟨rfl, rfl, by simpa using h1, fun hu => ?_, by omega, fun ha hd => ?_⟩
      · by_contra hne; exact h2 ⟨hu, hne⟩
      · by_contra hne; exact h4 ⟨ha, hne, hd⟩
    · rintro ⟨hm', hp', -⟩
      cases hm'; cases hp'; rfl

/-! ## Operands -/

/-- ENCRYPT and DECRYPT lack an operand exactly when a byte of the message is undef, or of IV in a mode that uses it (R38,
R271, R35). -/
theorem State.passInput_eq_none {s : State} {m : Mode} :
    s.passInput m = none ↔
      (∃ j, j < s.msglen.toNat ∧ s.bufRead .inp j = none) ∨ (m ≠ .ecb ∧ ∃ j, j < 8 ∧ s.bufRead .iv j = none) := by
  have hmsg : s.message = none ↔ ∃ j, j < s.msglen.toNat ∧ s.bufRead .inp j = none := Memory.readRange_eq_none
  have hiv : s.ivBlock m = none ↔ m ≠ .ecb ∧ ∃ j, j < 8 ∧ s.bufRead .iv j = none := by
    have hr : s.bufBytes .iv Config.ivBytes = none ↔ ∃ j, j < 8 ∧ s.bufRead .iv j = none := Memory.readRange_eq_none
    cases m <;> simp [State.ivBlock, usesIv, hr]
  rw [← hmsg, ← hiv]
  unfold State.passInput
  rcases s.ivBlock m with _ | iv <;> rcases s.message with _ | msg <;> simp

/-- SCHEDULE lacks its operand exactly when a byte of KEY[0..KEYLEN-1] is undef (R38, R151). -/
theorem State.keyBytes_eq_none {s : State} :
    s.keyBytes = none ↔ ∃ j, j < s.keylen.toNat ∧ s.bufRead .key j = none := Memory.readRange_eq_none

/-- The accepted key lengths (R152). -/
theorem State.keyLengthOk_iff {s : State} : s.keyLengthOk = true ↔ 4 ≤ s.keylen.toNat ∧ s.keylen.toNat ≤ 56 := by
  rw [State.keyLengthOk, Bool.and_eq_true, decide_eq_true_iff, decide_eq_true_iff]; rfl

/-! ## The STATUS word -/

/-- STATUS as R92 writes it. -/
theorem State.statusWord_eq_shifts (s : State) :
    s.statusWord = (s.lastOp.setWidth 32 <<< 8) ||| ((errBits s.errcode).setWidth 32 <<< 4) |||
      ((BitVec.ofBool s.overrun).setWidth 32 <<< 2) ||| ((BitVec.ofBool s.schedValid).setWidth 32 <<< 1) |||
      (BitVec.ofBool s.busy).setWidth 32 := by
  apply BitVec.eq_of_getLsbD_eq
  intro i hi
  simp only [State.statusWord, BitVec.getLsbD_append, bit]
  interval_cases i <;> simp

/-! ## The shared bodies of the commands -/

/-- ENCBLK and DECBLK: NO_SCHEDULE, or the transformed block. -/
theorem State.transformBlk_cases (f : Schedule → Block → Block) (s : State) :
    (s.schedValid = false ∧ s.transformBlk f = s.complete .noSchedule) ∨
    (s.schedValid = true ∧ s.transformBlk f =
      ({ s.spendDatapath with blkL := (f s.sched s.blk).l, blkR := (f s.sched s.blk).r } : State).complete .ok) := by
  rcases h : s.schedValid
  · exact .inl ⟨rfl, by simp [State.transformBlk, h]⟩
  · exact .inr ⟨rfl, by simp [State.transformBlk, h]⟩

/-- SCHEDULE: KEY_SIZE, no defined result, or the derived tables. -/
theorem execSchedule_cases (s : State) :
    (s.keyLengthOk = false ∧ execSchedule s = .next s.scheduleKeySize) ∨
    (s.keyLengthOk = true ∧ s.keyBytes = none ∧ execSchedule s = .next s.scheduleUndef) ∨
    (∃ k, s.keyLengthOk = true ∧ s.keyBytes = some k ∧ execSchedule s = .next (s.scheduleKey k)) := by
  rcases h : s.keyLengthOk
  · exact .inl ⟨rfl, by simp [execSchedule, h]⟩
  · rcases hk : s.keyBytes with _ | k
    · exact .inr (.inl ⟨rfl, rfl, by simp [execSchedule, h, hk]⟩)
    · exact .inr (.inr ⟨k, rfl, rfl, by simp [execSchedule, h, hk]⟩)

/-- ENCRYPT and DECRYPT: a failed check, no defined result, a committed result, or an error of the data pass. -/
theorem State.cryptCommand_cases (d : Dir) (s : State) :
    (∃ e, s.checks d = .error e ∧ s.cryptCommand d = s.commitError.complete e) ∨
    (∃ m p, s.checks d = .ok (m, p) ∧ s.passInput m = none ∧ s.cryptCommand d = s.messageUndef) ∨
    (∃ m p iv msg r, s.checks d = .ok (m, p) ∧ s.passInput m = some (iv, msg) ∧
      cryptMessage d m p s.params.zeroPadAligned s.sched iv msg = .ok r ∧
      s.cryptCommand d = (s.spendDatapath.commit r).complete .ok) ∨
    (∃ m p iv msg e, s.checks d = .ok (m, p) ∧ s.passInput m = some (iv, msg) ∧
      cryptMessage d m p s.params.zeroPadAligned s.sched iv msg = .error e ∧
      s.cryptCommand d = s.spendDatapath.commitError.complete e) := by
  rcases hc : s.checks d with e | ⟨m, p⟩
  · exact .inl ⟨e, rfl, by simp [State.cryptCommand, hc]⟩
  refine .inr ?_
  rcases hi : s.passInput m with _ | ⟨iv, msg⟩
  · exact .inl ⟨m, p, rfl, hi, by simp [State.cryptCommand, State.dataPass, hc, hi]⟩
  refine .inr ?_
  rcases hr : cryptMessage d m p s.params.zeroPadAligned s.sched iv msg with e | r
  · exact .inr ⟨m, p, iv, msg, e, rfl, hi, hr, by simp [State.cryptCommand, State.dataPass, hc, hi, hr]⟩
  · exact .inl ⟨m, p, iv, msg, r, rfl, hi, hr, by simp [State.cryptCommand, State.dataPass, hc, hi, hr]⟩

/-! ## The host's step -/

/-- What a host step can do: nothing, one poll of a `wait`, a read, a write; or it is refused. -/
theorem hostStep_cases (s : State) :
    (s.program = [] ∧ hostStep s = .next s) ∨
    (∃ rest, s.program = .wait :: rest ∧ hostStep s = .next
      (if (s.hostLoad 0x008#16).1.getLsbD 0 then (s.hostLoad 0x008#16).2
        else { (s.hostLoad 0x008#16).2 with program := rest })) ∨
    (∃ off rest, s.program = HostOp.rd off :: rest ∧ Offset.aligned off = true ∧
      hostStep s = .next { (s.hostLoad off).2 with program := rest }) ∨
    (∃ off v rest, s.program = HostOp.wr off v :: rest ∧ Offset.aligned off = true ∧
      hostStep s = .next { s.hostWrite off v with program := rest }) ∨
    (∃ width off op rest, s.program = .access width off op :: rest ∧ HostOp.wf (.access width off op) = false ∧
      hostStep s = .refused (.undefinedAccess width off)) := by
  rcases hp : s.program with _ | ⟨op, rest⟩
  · exact .inl ⟨rfl, by simp [hostStep, hp]⟩
  refine .inr ?_
  cases op with
  | wait => exact .inl ⟨rest, rfl, by simp [hostStep, hp]⟩
  | access width off op =>
    refine .inr ?_
    by_cases hw : HostOp.wf (.access width off op) = true
    · have hw' := hw
      simp only [HostOp.wf, Bool.and_eq_true, beq_iff_eq] at hw'
      obtain ⟨rfl, ha⟩ := hw'
      cases op with
      | read => exact .inl ⟨off, rest, rfl, ha, by simp [hostStep, hp, hw]⟩
      | write v => exact .inr (.inl ⟨off, v, rest, rfl, ha, by simp [hostStep, hp, hw]⟩)
    · exact .inr (.inr ⟨width, off, op, rest, rfl, by simpa using hw, by simp [hostStep, hp, hw]⟩)

/-- A host read changes the host's record and the count of draws, nothing else. -/
theorem State.hostLoad_snd (off : Offset) (s : State) :
    (s.hostLoad off).2 = { s with
      reads := (s.hostLoad off).2.reads, draws := (s.hostLoad off).2.draws } := by
  simp only [State.hostLoad, State.hostRead]
  split <;> rfl

/-! ## One step -/

/-- What a step that gives a next state did, by the agent that moved. -/
theorem step_next_cases {s t : State} (h : step s = .next t) :
    (s.nextTurn.1 = .host ∧ hostStep s.nextTurn.2 = .next t) ∨
    (s.nextTurn.1 = .sequencer ∧ t = if s.busy then s.nextTurn.2.tick else s.nextTurn.2) ∨
    (s.nextTurn.1 = .completion ∧ s.busy = false ∧ t = s.nextTurn.2) ∨
    (s.nextTurn.1 = .completion ∧ s.busy = true ∧ completionStep s.nextTurn.2 = .next t) ∨
    (s.nextTurn.1 = .reset ∧ t = s.nextTurn.2.powerOnReset) := by
  have hb : s.nextTurn.2.busy = s.busy := by rw [State.nextTurn_snd]
  have e : ∀ {x : State}, Host.Outcome.next (φ := Fault) (ρ := Refusal) x = .next t → t = x :=
    fun hx => (Host.Outcome.next.inj hx).symm
  unfold step takeTurn at h
  rcases ht : s.nextTurn.1 <;> rw [ht] at h <;> simp only [hb] at h
  · exact .inl ⟨rfl, h⟩
  · exact .inr (.inl ⟨rfl, e h⟩)
  · rcases hbusy : s.busy <;> rw [hbusy] at h
    · exact .inr (.inr (.inl ⟨rfl, rfl, e h⟩))
    · exact .inr (.inr (.inr (.inl ⟨rfl, rfl, h⟩)))
  · exact .inr (.inr (.inr (.inr ⟨rfl, e h⟩)))

end Sys2Proof.Machine
end

