-- ==== Sys2Proof/Laws/Agents.lean ====
section
/-! SUPPORT. What the agents' steps other than a completion leave unchanged, one lemma per field: an internal engine step, a
host read, a host write, and a host write while a command runs. -/

namespace Sys2Proof.Machine

/-! ## An internal engine step -/

/-- An internal step writes at most the tables, the datapath and the sequencing registers. -/
theorem State.tick_frame (s : State) : ∃ sc x y ch ph ki rn bi, s.tick =
    { s with sched := sc, xl := x, xr := y, chain := ch, ksPhase := ph, ksIdx := ki, rnd := rn, blkIdx := bi } := by
  unfold State.tick
  split
  · exact ⟨_, _, _, _, _, _, _, _, rfl⟩
  · unfold State.ksTick
    split
    · exact ⟨_, _, _, _, _, _, _, _, rfl⟩
    · split
      · exact ⟨_, _, _, _, _, _, _, _, rfl⟩
      · split <;> exact ⟨_, _, _, _, _, _, _, _, rfl⟩
    · exact ⟨_, _, _, _, _, _, _, _, rfl⟩
    · split
      · exact ⟨_, _, _, _, _, _, _, _, rfl⟩
      · simp only [State.ksXorTick]
        split <;> exact ⟨_, _, _, _, _, _, _, _, rfl⟩
    · simp only [State.ksEncTick]
      split <;> exact ⟨_, _, _, _, _, _, _, _, rfl⟩
    · exact ⟨_, _, _, _, _, _, _, _, rfl⟩
  · exact modeTick_frame .encrypt
  · exact modeTick_frame .decrypt
  · exact coreTick_frame encRound
  · exact coreTick_frame decRound
  · exact ⟨_, _, _, _, _, _, _, _, rfl⟩
  · exact ⟨_, _, _, _, _, _, _, _, rfl⟩
  · exact ⟨_, _, _, _, _, _, _, _, rfl⟩
where
  modeTick_frame (d : Dir) : ∃ sc x y ch ph ki rn bi, s.modeTick d =
      { s with sched := sc, xl := x, xr := y, chain := ch, ksPhase := ph, ksIdx := ki, rnd := rn, blkIdx := bi } := by
    unfold State.modeTick
    split
    · exact ⟨_, _, _, _, _, _, _, _, rfl⟩
    split
    · exact ⟨_, _, _, _, _, _, _, _, rfl⟩
    split
    · exact ⟨_, _, _, _, _, _, _, _, rfl⟩
    dsimp only
    split <;> exact ⟨_, _, _, _, _, _, _, _, rfl⟩
  coreTick_frame (f : Schedule → Block → Nat → Block) : ∃ sc x y ch ph ki rn bi, s.coreTick f =
      { s with sched := sc, xl := x, xr := y, chain := ch, ksPhase := ph, ksIdx := ki, rnd := rn, blkIdx := bi } := by
    unfold State.coreTick
    split
    · exact ⟨_, _, _, _, _, _, _, _, rfl⟩
    split <;> exact ⟨_, _, _, _, _, _, _, _, rfl⟩

@[simp] theorem State.tick_params (s : State) : s.tick.params = s.params := by
  obtain ⟨_, _, _, _, _, _, _, _, h⟩ := s.tick_frame; rw [h]
@[simp] theorem State.tick_mem (s : State) : s.tick.mem = s.mem := by
  obtain ⟨_, _, _, _, _, _, _, _, h⟩ := s.tick_frame; rw [h]
@[simp] theorem State.tick_config (s : State) : s.tick.config = s.config := by
  obtain ⟨_, _, _, _, _, _, _, _, h⟩ := s.tick_frame; rw [h]
@[simp] theorem State.tick_keylen (s : State) : s.tick.keylen = s.keylen := by
  obtain ⟨_, _, _, _, _, _, _, _, h⟩ := s.tick_frame; rw [h]
@[simp] theorem State.tick_ivlen (s : State) : s.tick.ivlen = s.ivlen := by
  obtain ⟨_, _, _, _, _, _, _, _, h⟩ := s.tick_frame; rw [h]
@[simp] theorem State.tick_msglen (s : State) : s.tick.msglen = s.msglen := by
  obtain ⟨_, _, _, _, _, _, _, _, h⟩ := s.tick_frame; rw [h]
@[simp] theorem State.tick_outlen (s : State) : s.tick.outlen = s.outlen := by
  obtain ⟨_, _, _, _, _, _, _, _, h⟩ := s.tick_frame; rw [h]
@[simp] theorem State.tick_done (s : State) : s.tick.done = s.done := by
  obtain ⟨_, _, _, _, _, _, _, _, h⟩ := s.tick_frame; rw [h]
@[simp] theorem State.tick_blkL (s : State) : s.tick.blkL = s.blkL := by
  obtain ⟨_, _, _, _, _, _, _, _, h⟩ := s.tick_frame; rw [h]
@[simp] theorem State.tick_blkR (s : State) : s.tick.blkR = s.blkR := by
  obtain ⟨_, _, _, _, _, _, _, _, h⟩ := s.tick_frame; rw [h]
@[simp] theorem State.tick_busy (s : State) : s.tick.busy = s.busy := by
  obtain ⟨_, _, _, _, _, _, _, _, h⟩ := s.tick_frame; rw [h]
@[simp] theorem State.tick_schedValid (s : State) : s.tick.schedValid = s.schedValid := by
  obtain ⟨_, _, _, _, _, _, _, _, h⟩ := s.tick_frame; rw [h]
@[simp] theorem State.tick_overrun (s : State) : s.tick.overrun = s.overrun := by
  obtain ⟨_, _, _, _, _, _, _, _, h⟩ := s.tick_frame; rw [h]
@[simp] theorem State.tick_errcode (s : State) : s.tick.errcode = s.errcode := by
  obtain ⟨_, _, _, _, _, _, _, _, h⟩ := s.tick_frame; rw [h]
@[simp] theorem State.tick_lastOp (s : State) : s.tick.lastOp = s.lastOp := by
  obtain ⟨_, _, _, _, _, _, _, _, h⟩ := s.tick_frame; rw [h]
@[simp] theorem State.tick_cmdreg (s : State) : s.tick.cmdreg = s.cmdreg := by
  obtain ⟨_, _, _, _, _, _, _, _, h⟩ := s.tick_frame; rw [h]
@[simp] theorem State.tick_faultUndef (s : State) : s.tick.faultUndef = s.faultUndef := by
  obtain ⟨_, _, _, _, _, _, _, _, h⟩ := s.tick_frame; rw [h]
@[simp] theorem State.tick_draws (s : State) : s.tick.draws = s.draws := by
  obtain ⟨_, _, _, _, _, _, _, _, h⟩ := s.tick_frame; rw [h]
@[simp] theorem State.tick_program (s : State) : s.tick.program = s.program := by
  obtain ⟨_, _, _, _, _, _, _, _, h⟩ := s.tick_frame; rw [h]
@[simp] theorem State.tick_reads (s : State) : s.tick.reads = s.reads := by
  obtain ⟨_, _, _, _, _, _, _, _, h⟩ := s.tick_frame; rw [h]
@[simp] theorem State.tick_turns (s : State) : s.tick.turns = s.turns := by
  obtain ⟨_, _, _, _, _, _, _, _, h⟩ := s.tick_frame; rw [h]

/-! ## A host read -/

@[simp] theorem State.hostLoad_params (s : State) (off : Offset) : (s.hostLoad off).2.params = s.params := by
  rw [State.hostLoad_snd]
@[simp] theorem State.hostLoad_sched (s : State) (off : Offset) : (s.hostLoad off).2.sched = s.sched := by
  rw [State.hostLoad_snd]
@[simp] theorem State.hostLoad_mem (s : State) (off : Offset) : (s.hostLoad off).2.mem = s.mem := by
  rw [State.hostLoad_snd]
@[simp] theorem State.hostLoad_config (s : State) (off : Offset) : (s.hostLoad off).2.config = s.config := by
  rw [State.hostLoad_snd]
@[simp] theorem State.hostLoad_keylen (s : State) (off : Offset) : (s.hostLoad off).2.keylen = s.keylen := by
  rw [State.hostLoad_snd]
@[simp] theorem State.hostLoad_ivlen (s : State) (off : Offset) : (s.hostLoad off).2.ivlen = s.ivlen := by
  rw [State.hostLoad_snd]
@[simp] theorem State.hostLoad_msglen (s : State) (off : Offset) : (s.hostLoad off).2.msglen = s.msglen := by
  rw [State.hostLoad_snd]
@[simp] theorem State.hostLoad_outlen (s : State) (off : Offset) : (s.hostLoad off).2.outlen = s.outlen := by
  rw [State.hostLoad_snd]
@[simp] theorem State.hostLoad_done (s : State) (off : Offset) : (s.hostLoad off).2.done = s.done := by
  rw [State.hostLoad_snd]
@[simp] theorem State.hostLoad_blkL (s : State) (off : Offset) : (s.hostLoad off).2.blkL = s.blkL := by
  rw [State.hostLoad_snd]
@[simp] theorem State.hostLoad_blkR (s : State) (off : Offset) : (s.hostLoad off).2.blkR = s.blkR := by
  rw [State.hostLoad_snd]
@[simp] theorem State.hostLoad_busy (s : State) (off : Offset) : (s.hostLoad off).2.busy = s.busy := by
  rw [State.hostLoad_snd]
@[simp] theorem State.hostLoad_schedValid (s : State) (off : Offset) : (s.hostLoad off).2.schedValid = s.schedValid := by
  rw [State.hostLoad_snd]
@[simp] theorem State.hostLoad_overrun (s : State) (off : Offset) : (s.hostLoad off).2.overrun = s.overrun := by
  rw [State.hostLoad_snd]
@[simp] theorem State.hostLoad_errcode (s : State) (off : Offset) : (s.hostLoad off).2.errcode = s.errcode := by
  rw [State.hostLoad_snd]
@[simp] theorem State.hostLoad_lastOp (s : State) (off : Offset) : (s.hostLoad off).2.lastOp = s.lastOp := by
  rw [State.hostLoad_snd]
@[simp] theorem State.hostLoad_cmdreg (s : State) (off : Offset) : (s.hostLoad off).2.cmdreg = s.cmdreg := by
  rw [State.hostLoad_snd]
@[simp] theorem State.hostLoad_xl (s : State) (off : Offset) : (s.hostLoad off).2.xl = s.xl := by
  rw [State.hostLoad_snd]
@[simp] theorem State.hostLoad_xr (s : State) (off : Offset) : (s.hostLoad off).2.xr = s.xr := by
  rw [State.hostLoad_snd]
@[simp] theorem State.hostLoad_chain (s : State) (off : Offset) : (s.hostLoad off).2.chain = s.chain := by
  rw [State.hostLoad_snd]
@[simp] theorem State.hostLoad_ksPhase (s : State) (off : Offset) : (s.hostLoad off).2.ksPhase = s.ksPhase := by
  rw [State.hostLoad_snd]
@[simp] theorem State.hostLoad_ksIdx (s : State) (off : Offset) : (s.hostLoad off).2.ksIdx = s.ksIdx := by
  rw [State.hostLoad_snd]
@[simp] theorem State.hostLoad_rnd (s : State) (off : Offset) : (s.hostLoad off).2.rnd = s.rnd := by
  rw [State.hostLoad_snd]
@[simp] theorem State.hostLoad_blkIdx (s : State) (off : Offset) : (s.hostLoad off).2.blkIdx = s.blkIdx := by
  rw [State.hostLoad_snd]
@[simp] theorem State.hostLoad_faultUndef (s : State) (off : Offset) : (s.hostLoad off).2.faultUndef = s.faultUndef := by
  rw [State.hostLoad_snd]
@[simp] theorem State.hostLoad_program (s : State) (off : Offset) : (s.hostLoad off).2.program = s.program := by
  rw [State.hostLoad_snd]
@[simp] theorem State.hostLoad_turns (s : State) (off : Offset) : (s.hostLoad off).2.turns = s.turns := by
  rw [State.hostLoad_snd]

/-! ## A host write -/

@[simp] theorem State.hostWrite_params (s : State) (off : Offset) (v : Word) : (s.hostWrite off v).params = s.params := by
  unfold State.hostWrite State.whenIdle; split <;> (try split) <;> (try split) <;> rfl
@[simp] theorem State.hostWrite_sched (s : State) (off : Offset) (v : Word) : (s.hostWrite off v).sched = s.sched := by
  unfold State.hostWrite State.whenIdle; split <;> (try split) <;> (try split) <;> rfl
@[simp] theorem State.hostWrite_outlen (s : State) (off : Offset) (v : Word) : (s.hostWrite off v).outlen = s.outlen := by
  unfold State.hostWrite State.whenIdle; split <;> (try split) <;> (try split) <;> rfl
@[simp] theorem State.hostWrite_errcode (s : State) (off : Offset) (v : Word) : (s.hostWrite off v).errcode = s.errcode := by
  unfold State.hostWrite State.whenIdle; split <;> (try split) <;> (try split) <;> rfl
@[simp] theorem State.hostWrite_lastOp (s : State) (off : Offset) (v : Word) : (s.hostWrite off v).lastOp = s.lastOp := by
  unfold State.hostWrite State.whenIdle; split <;> (try split) <;> (try split) <;> rfl
@[simp] theorem State.hostWrite_xl (s : State) (off : Offset) (v : Word) : (s.hostWrite off v).xl = s.xl := by
  unfold State.hostWrite State.whenIdle; split <;> (try split) <;> (try split) <;> rfl
@[simp] theorem State.hostWrite_xr (s : State) (off : Offset) (v : Word) : (s.hostWrite off v).xr = s.xr := by
  unfold State.hostWrite State.whenIdle; split <;> (try split) <;> (try split) <;> rfl
@[simp] theorem State.hostWrite_chain (s : State) (off : Offset) (v : Word) : (s.hostWrite off v).chain = s.chain := by
  unfold State.hostWrite State.whenIdle; split <;> (try split) <;> (try split) <;> rfl
@[simp] theorem State.hostWrite_ksIdx (s : State) (off : Offset) (v : Word) : (s.hostWrite off v).ksIdx = s.ksIdx := by
  unfold State.hostWrite State.whenIdle; split <;> (try split) <;> (try split) <;> rfl
@[simp] theorem State.hostWrite_rnd (s : State) (off : Offset) (v : Word) : (s.hostWrite off v).rnd = s.rnd := by
  unfold State.hostWrite State.whenIdle; split <;> (try split) <;> (try split) <;> rfl
@[simp] theorem State.hostWrite_blkIdx (s : State) (off : Offset) (v : Word) : (s.hostWrite off v).blkIdx = s.blkIdx := by
  unfold State.hostWrite State.whenIdle; split <;> (try split) <;> (try split) <;> rfl
@[simp] theorem State.hostWrite_faultUndef (s : State) (off : Offset) (v : Word) : (s.hostWrite off v).faultUndef = s.faultUndef := by
  unfold State.hostWrite State.whenIdle; split <;> (try split) <;> (try split) <;> rfl
@[simp] theorem State.hostWrite_draws (s : State) (off : Offset) (v : Word) : (s.hostWrite off v).draws = s.draws := by
  unfold State.hostWrite State.whenIdle; split <;> (try split) <;> (try split) <;> rfl
@[simp] theorem State.hostWrite_program (s : State) (off : Offset) (v : Word) : (s.hostWrite off v).program = s.program := by
  unfold State.hostWrite State.whenIdle; split <;> (try split) <;> (try split) <;> rfl
@[simp] theorem State.hostWrite_reads (s : State) (off : Offset) (v : Word) : (s.hostWrite off v).reads = s.reads := by
  unfold State.hostWrite State.whenIdle; split <;> (try split) <;> (try split) <;> rfl
@[simp] theorem State.hostWrite_turns (s : State) (off : Offset) (v : Word) : (s.hostWrite off v).turns = s.turns := by
  unfold State.hostWrite State.whenIdle; split <;> (try split) <;> (try split) <;> rfl

/-! ## A host write while a command runs (R90) -/

theorem State.hostWrite_cmdreg_of_busy {s : State} {off : Offset} {v : Word} (h : s.busy = true) :
    (s.hostWrite off v).cmdreg = s.cmdreg := by
  unfold State.hostWrite State.whenIdle; simp only [h, if_true]; split <;> (try split) <;> rfl
theorem State.hostWrite_busy_of_busy {s : State} {off : Offset} {v : Word} (h : s.busy = true) :
    (s.hostWrite off v).busy = true := by
  unfold State.hostWrite State.whenIdle; simp only [h, if_true]; split <;> (try split) <;> first | exact h | rfl
theorem State.hostWrite_schedValid_of_busy {s : State} {off : Offset} {v : Word} (h : s.busy = true) :
    (s.hostWrite off v).schedValid = s.schedValid := by
  unfold State.hostWrite State.whenIdle; simp only [h, if_true]; split <;> (try split) <;> rfl
theorem State.hostWrite_ksPhase_of_busy {s : State} {off : Offset} {v : Word} (h : s.busy = true) :
    (s.hostWrite off v).ksPhase = s.ksPhase := by
  unfold State.hostWrite State.whenIdle; simp only [h, if_true]; split <;> (try split) <;> rfl
theorem State.hostWrite_config_of_busy {s : State} {off : Offset} {v : Word} (h : s.busy = true) :
    (s.hostWrite off v).config = s.config := by
  unfold State.hostWrite State.whenIdle; simp only [h, if_true]; split <;> (try split) <;> rfl
theorem State.hostWrite_keylen_of_busy {s : State} {off : Offset} {v : Word} (h : s.busy = true) :
    (s.hostWrite off v).keylen = s.keylen := by
  unfold State.hostWrite State.whenIdle; simp only [h, if_true]; split <;> (try split) <;> rfl
theorem State.hostWrite_ivlen_of_busy {s : State} {off : Offset} {v : Word} (h : s.busy = true) :
    (s.hostWrite off v).ivlen = s.ivlen := by
  unfold State.hostWrite State.whenIdle; simp only [h, if_true]; split <;> (try split) <;> rfl
theorem State.hostWrite_msglen_of_busy {s : State} {off : Offset} {v : Word} (h : s.busy = true) :
    (s.hostWrite off v).msglen = s.msglen := by
  unfold State.hostWrite State.whenIdle; simp only [h, if_true]; split <;> (try split) <;> rfl
theorem State.hostWrite_blkL_of_busy {s : State} {off : Offset} {v : Word} (h : s.busy = true) :
    (s.hostWrite off v).blkL = s.blkL := by
  unfold State.hostWrite State.whenIdle; simp only [h, if_true]; split <;> (try split) <;> rfl
theorem State.hostWrite_blkR_of_busy {s : State} {off : Offset} {v : Word} (h : s.busy = true) :
    (s.hostWrite off v).blkR = s.blkR := by
  unfold State.hostWrite State.whenIdle; simp only [h, if_true]; split <;> (try split) <;> rfl
theorem State.hostWrite_mem_of_busy {s : State} {off : Offset} {v : Word} (h : s.busy = true) :
    (s.hostWrite off v).mem = s.mem := by
  unfold State.hostWrite State.whenIdle; simp only [h, if_true]; split <;> (try split) <;> rfl

/-! ## A host write while the engine is idle -/

/-- From an idle engine only a CMD write sets BUSY, and it is the issue of its word. -/
theorem State.hostWrite_issues {s : State} {off : Offset} {v : Word} (hb : s.busy = false)
    (h : (s.hostWrite off v).busy = true) : locate off = .cmd ∧ s.hostWrite off v = s.issue v := by
  have e : ∀ t : State, s.whenIdle t = t := fun t => by simp [State.whenIdle, hb]
  by_cases hc : locate off = .cmd
  · exact ⟨hc, by simp only [State.hostWrite, hc, e]⟩
  · exfalso
    have : (s.hostWrite off v).busy = s.busy := by
      unfold State.hostWrite
      simp only [e]
      split <;> first | rfl | (split <;> rfl) | contradiction
    rw [this, hb] at h
    cases h

/-! ## The register map -/

theorem locate_eq_cmd {off : Offset} (h : locate off = .cmd) : off = 0x004#16 := by
  apply BitVec.eq_of_toNat_eq
  show off.toNat = 4
  unfold locate locateNat at h
  by_contra hc
  by_cases h0 : off.toNat = 0
  · rw [if_pos h0] at h; cases h
  · rw [if_neg h0, if_neg hc] at h
    iterate 15
      rw [ite_eq_iff] at h
      rcases h with ⟨_, h⟩ | ⟨_, h⟩
      · cases h
    cases h

/-- The offset of word `j` of a window whose last word ends by 0xFFFF, as a number. -/
theorem offset_toNat {base j : Nat} (h : base + 4 * j < 0x10000) : (BitVec.ofNat 16 (base + 4 * j)).toNat = base + 4 * j := by
  simp [Nat.mod_eq_of_lt h]

theorem locate_key {j : Nat} (h : j < 14) : locate (BitVec.ofNat 16 (0x0040 + 4 * j)) = .key j := by
  unfold locate locateNat; rw [offset_toNat (by omega)]
  iterate 11 rw [if_neg (by omega)]
  rw [if_pos (by omega), show (0x0040 + 4 * j - 0x0040) / 4 = j by omega]

theorem locate_iv {j : Nat} (h : j < 2) : locate (BitVec.ofNat 16 (0x0080 + 4 * j)) = .iv j := by
  unfold locate locateNat; rw [offset_toNat (by omega)]
  iterate 12 rw [if_neg (by omega)]
  rw [if_pos (by omega), show (0x0080 + 4 * j - 0x0080) / 4 = j by omega]

theorem locate_pwin {i : Nat} (h : i < 18) : locate (BitVec.ofNat 16 (0x0100 + 4 * i)) = .pwin i := by
  unfold locate locateNat; rw [offset_toNat (by omega)]
  iterate 13 rw [if_neg (by omega)]
  rw [if_pos (by omega), show (0x0100 + 4 * i - 0x0100) / 4 = i by omega]

theorem locate_swin {n : Nat} (h : n < 1024) : locate (BitVec.ofNat 16 (0x1000 + 4 * n)) = .swin (n / 256) (n % 256) := by
  unfold locate locateNat; rw [offset_toNat (by omega)]
  iterate 14 rw [if_neg (by omega)]
  rw [if_pos (by omega), show (0x1000 + 4 * n - 0x1000) / 0x400 = n / 256 by omega, show (0x1000 + 4 * n - 0x1000) % 0x400 / 4 = n % 256 by omega]

theorem locate_inwin {j : Nat} (h : j < 4096) : locate (BitVec.ofNat 16 (0x4000 + 4 * j)) = .inwin j := by
  unfold locate locateNat; rw [offset_toNat (by omega)]
  iterate 15 rw [if_neg (by omega)]
  rw [if_pos (by omega), show (0x4000 + 4 * j - 0x4000) / 4 = j by omega]

theorem locate_outwin {j : Nat} (h : j < 4096) : locate (BitVec.ofNat 16 (0x8000 + 4 * j)) = .outwin j := by
  unfold locate locateNat; rw [offset_toNat (by omega)]
  iterate 16 rw [if_neg (by omega)]
  rw [if_pos (by omega), show (0x8000 + 4 * j - 0x8000) / 4 = j by omega]

/-- The register map of R81 by ranges: a fact that holds at each of its places holds at the place of any aligned offset. -/
theorem locateNat_cases (o : Nat) (ha : o % 4 = 0) (P : Loc → Prop)
    (h0 : o = 0x000 → P .id) (h1 : o = 0x004 → P .cmd) (h2 : o = 0x008 → P .status) (h3 : o = 0x00C → P .config)
    (h4 : o = 0x010 → P .keylen) (h5 : o = 0x014 → P .ivlen) (h6 : o = 0x018 → P .msglen) (h7 : o = 0x01C → P .outlen)
    (h8 : o = 0x020 → P .irqStatus) (h9 : o = 0x024 → P .blkL) (h10 : o = 0x028 → P .blkR)
    (k : 0x040 ≤ o ∧ o ≤ 0x074 → P (.key ((o - 0x040) / 4))) (iv : 0x080 ≤ o ∧ o ≤ 0x084 → P (.iv ((o - 0x080) / 4)))
    (p : 0x100 ≤ o ∧ o ≤ 0x144 → P (.pwin ((o - 0x100) / 4)))
    (sw : 0x1000 ≤ o ∧ o ≤ 0x1FFC → P (.swin ((o - 0x1000) / 0x400) ((o - 0x1000) % 0x400 / 4)))
    (i : 0x4000 ≤ o ∧ o ≤ 0x7FFC → P (.inwin ((o - 0x4000) / 4)))
    (ou : 0x8000 ≤ o ∧ o ≤ 0xBFFC → P (.outwin ((o - 0x8000) / 4)))
    (r : ¬ (o ≤ 0x028 ∨ (0x040 ≤ o ∧ o ≤ 0x074) ∨ (0x080 ≤ o ∧ o ≤ 0x084) ∨ (0x100 ≤ o ∧ o ≤ 0x144) ∨
      (0x1000 ≤ o ∧ o ≤ 0x1FFC) ∨ (0x4000 ≤ o ∧ o ≤ 0x7FFC) ∨ (0x8000 ≤ o ∧ o ≤ 0xBFFC)) → P .reserved) :
    P (locateNat o) := by
  unfold locateNat
  by_cases g0 : o = 0x000
  · rw [if_pos g0]; exact h0 g0
  rw [if_neg g0]
  by_cases g1 : o = 0x004
  · rw [if_pos g1]; exact h1 g1
  rw [if_neg g1]
  by_cases g2 : o = 0x008
  · rw [if_pos g2]; exact h2 g2
  rw [if_neg g2]
  by_cases g3 : o = 0x00C
  · rw [if_pos g3]; exact h3 g3
  rw [if_neg g3]
  by_cases g4 : o = 0x010
  · rw [if_pos g4]; exact h4 g4
  rw [if_neg g4]
  by_cases g5 : o = 0x014
  · rw [if_pos g5]; exact h5 g5
  rw [if_neg g5]
  by_cases g6 : o = 0x018
  · rw [if_pos g6]; exact h6 g6
  rw [if_neg g6]
  by_cases g7 : o = 0x01C
  · rw [if_pos g7]; exact h7 g7
  rw [if_neg g7]
  by_cases g8 : o = 0x020
  · rw [if_pos g8]; exact h8 g8
  rw [if_neg g8]
  by_cases g9 : o = 0x024
  · rw [if_pos g9]; exact h9 g9
  rw [if_neg g9]
  by_cases g10 : o = 0x028
  · rw [if_pos g10]; exact h10 g10
  rw [if_neg g10]
  by_cases g11 : 0x040 ≤ o ∧ o ≤ 0x074
  · rw [if_pos g11]; exact k g11
  rw [if_neg g11]
  by_cases g12 : 0x080 ≤ o ∧ o ≤ 0x084
  · rw [if_pos g12]; exact iv g12
  rw [if_neg g12]
  by_cases g13 : 0x100 ≤ o ∧ o ≤ 0x144
  · rw [if_pos g13]; exact p g13
  rw [if_neg g13]
  by_cases g14 : 0x1000 ≤ o ∧ o ≤ 0x1FFC
  · rw [if_pos g14]; exact sw g14
  rw [if_neg g14]
  by_cases g15 : 0x4000 ≤ o ∧ o ≤ 0x7FFC
  · rw [if_pos g15]; exact i g15
  rw [if_neg g15]
  by_cases g16 : 0x8000 ≤ o ∧ o ≤ 0xBFFC
  · rw [if_pos g16]; exact ou g16
  rw [if_neg g16]
  exact r (by omega)

/-! ## The buffers and what a host write does to them -/

/-- MSG_MAX is at most 16376 (R7), so IN and OUT fit their windows. -/
theorem msgMax_le (c : Params) : c.msgMax ≤ 16376 := by
  have := c.msgBlocks.isLt; simp [Params.msgMax]; omega

/-- The four buffers do not overlap. -/
theorem InBuf.unique (c : Params) {b b' : Buf} {a : Nat} (h : InBuf c b a) (h' : InBuf c b' a) : b = b' := by
  have := msgMax_le c
  cases b <;> cases b' <;> first | rfl | (simp [InBuf, Buf.base, Buf.size, Config.keyMax, Config.ivBytes] at *; omega)

/-- What a host write does to memory: nothing, or the four bytes of one word of KEY, IV or IN (R91). -/
theorem State.hostWrite_mem_cases (s : State) (off : Offset) (v : Word) :
    (s.hostWrite off v).mem = s.mem ∨ ∃ b i, b ≠ Buf.out ∧ i + 4 ≤ b.size s.params ∧
      (s.hostWrite off v).mem = Memory.write s.mem (b.base + i) (wordBytes v) := by
  have hm : s.params.msgMax % 8 = 0 := by simp [Params.msgMax]
  rcases h : locate off with _ | _ | _ | _ | _ | _ | _ | _ | _ | _ | _ | j | j | j | ⟨t, i⟩ | j | j | _ <;> simp only [State.hostWrite, h, State.whenIdle]
  case key =>
    split
    · exact .inl rfl
    · refine .inr ⟨.key, 4 * j, by simp, ?_, rfl⟩
      have : j < 14 := by
        unfold locate locateNat at h
        iterate 11
          rw [ite_eq_iff] at h
          rcases h with ⟨_, h⟩ | ⟨_, h⟩
          · cases h
        rw [ite_eq_iff] at h
        rcases h with ⟨h1, h⟩ | ⟨_, h⟩
        · cases h; omega
        · iterate 5
            rw [ite_eq_iff] at h
            rcases h with ⟨_, h⟩ | ⟨_, h⟩
            · cases h
          cases h
      simp [Buf.size, Config.keyMax]; omega
  case iv =>
    split
    · exact .inl rfl
    · refine .inr ⟨.iv, 4 * j, by simp, ?_, rfl⟩
      have : j < 2 := by
        unfold locate locateNat at h
        iterate 12
          rw [ite_eq_iff] at h
          rcases h with ⟨_, h⟩ | ⟨_, h⟩
          · cases h
        rw [ite_eq_iff] at h
        rcases h with ⟨h1, h⟩ | ⟨_, h⟩
        · cases h; omega
        · iterate 4
            rw [ite_eq_iff] at h
            rcases h with ⟨_, h⟩ | ⟨_, h⟩
            · cases h
          cases h
      simp [Buf.size, Config.ivBytes]; omega
  case inwin =>
    split
    · split
      · exact .inl rfl
      · refine .inr ⟨.inp, 4 * j, by simp, ?_, rfl⟩
        rename_i hj _
        simp [Buf.size] at *; omega
    · exact .inl rfl
  all_goals first | exact .inl trivial | exact .inl rfl | (split <;> exact .inl rfl)

/-! ## Runs -/

/-- A run of one more step is the run of the rest from where the first step leads. -/
theorem run_succ_of_step {s t : State} (n : Nat) (h : step s = .next t) :
    Host.Core.run Sys2Proof.core (n + 1) s = Host.Core.run Sys2Proof.core n t := by
  have hs : core.step s = .next t := h
  simp only [Host.Core.run, hs]

end Sys2Proof.Machine
end

