-- ==== Sys2Proof/Laws/Bytes.lean ====
section
/-! SUPPORT. The laws of packing and unpacking bytes, words and blocks (spec/00_scope.md R10), of bytewise XOR, and of cutting
a message into blocks and passing over them. -/

namespace Sys2Proof.Machine

/-! ## Words -/

theorem be32_byte0 (a b c d : Byte) : (be32 a b c d).extractLsb' 24 8 = a := by
  apply BitVec.eq_of_getLsbD_eq
  intro i hi
  simp only [be32, BitVec.getLsbD_extractLsb', BitVec.getLsbD_append]
  have h1 : ¬ 24 + i < 8 := by omega
  have h2 : ¬ 24 + i - 8 < 8 := by omega
  have h3 : ¬ 24 + i - 8 - 8 < 8 := by omega
  have h4 : 24 + i - 8 - 8 - 8 = i := by omega
  simp [h1, h2, h3, h4, hi]

theorem be32_byte1 (a b c d : Byte) : (be32 a b c d).extractLsb' 16 8 = b := by
  apply BitVec.eq_of_getLsbD_eq
  intro i hi
  simp only [be32, BitVec.getLsbD_extractLsb', BitVec.getLsbD_append]
  have h1 : ¬ 16 + i < 8 := by omega
  have h2 : ¬ 16 + i - 8 < 8 := by omega
  have h4 : 16 + i - 8 - 8 = i := by omega
  simp [h1, h2, h4, hi]

theorem be32_byte2 (a b c d : Byte) : (be32 a b c d).extractLsb' 8 8 = c := by
  apply BitVec.eq_of_getLsbD_eq
  intro i hi
  simp only [be32, BitVec.getLsbD_extractLsb', BitVec.getLsbD_append]
  have h1 : ¬ 8 + i < 8 := by omega
  have h4 : 8 + i - 8 = i := by omega
  simp [h1, h4, hi]

theorem be32_byte3 (a b c d : Byte) : (be32 a b c d).extractLsb' 0 8 = d := by
  apply BitVec.eq_of_getLsbD_eq
  intro i hi
  simp only [be32, BitVec.getLsbD_extractLsb', BitVec.getLsbD_append]
  simp [hi]

/-- Packing the bytes of a word gives the word back. -/
theorem be32_extract (w : Word) :
    be32 (w.extractLsb' 24 8) (w.extractLsb' 16 8) (w.extractLsb' 8 8) (w.extractLsb' 0 8) = w := by
  apply BitVec.eq_of_getLsbD_eq
  intro i hi
  simp only [be32, BitVec.getLsbD_extractLsb', BitVec.getLsbD_append]
  by_cases h1 : i < 8
  · simp [h1]
  by_cases h2 : i - 8 < 8
  · have : 8 + (i - 8) = i := by omega
    simp [h1, h2, this]
  by_cases h3 : i - 8 - 8 < 8
  · have : 16 + (i - 8 - 8) = i := by omega
    simp [h1, h2, h3, this]
  · have h4 : i - 8 - 8 - 8 < 8 := by omega
    have : 24 + (i - 8 - 8 - 8) = i := by omega
    simp [h1, h2, h3, h4, this]

theorem wordAt_wordBytes (w : Word) : wordAt (wordBytes w) 0 = w := be32_extract w

theorem wordBytes_be32 (a b c d : Byte) : wordBytes (be32 a b c d) = [a, b, c, d] := by
  simp only [wordBytes, be32_byte0, be32_byte1, be32_byte2, be32_byte3]

/-! ## Trailing zero bytes (R243) -/

/-- Unpadding removes appended zero bytes, however many. -/
theorem unpadZero_append_zeros (m : List Byte) (n : Nat) : unpadZero (m ++ zeros n) = unpadZero m := by
  have h : ∀ l : List Byte, (List.replicate n 0#8 ++ l).dropWhile (fun b => decide (b = 0#8)) =
      l.dropWhile (fun b => decide (b = 0#8)) := by
    intro l
    induction n with
    | zero => rfl
    | succ n ih => simp [List.replicate_succ, ih]
  rw [unpadZero, unpadZero, zeros, List.reverse_append, List.reverse_replicate, h]

/-- Unpadding leaves a message as it is when its last byte is not 0x00. -/
theorem unpadZero_append_of_ne {m : List Byte} {b : Byte} (h : b ≠ 0#8) : unpadZero (m ++ [b]) = m ++ [b] := by
  simp [unpadZero, h]

/-! ## Blocks -/

@[simp] theorem bytesOfBlock_length (b : Block) : (bytesOfBlock b).length = 8 := rfl
@[simp] theorem encBytes_length (t : Schedule) (b : List Byte) : (encBytes t b).length = 8 := rfl
@[simp] theorem decBytes_length (t : Schedule) (b : List Byte) : (decBytes t b).length = 8 := rfl

@[simp] theorem blockOfBytes_bytesOfBlock (b : Block) : blockOfBytes (bytesOfBlock b) = b := by
  obtain ⟨l, r⟩ := b
  have hl : wordAt (bytesOfBlock ⟨l, r⟩) 0 = l := be32_extract l
  have hr : wordAt (bytesOfBlock ⟨l, r⟩) 4 = r := be32_extract r
  simp only [blockOfBytes, hl, hr]

theorem bytesOfBlock_blockOfBytes {o : List Byte} (h : o.length = 8) : bytesOfBlock (blockOfBytes o) = o := by
  match o, h with
  | [a, b, c, d, e, f, g, i], _ =>
    have hl : wordAt [a, b, c, d, e, f, g, i] 0 = be32 a b c d := rfl
    have hr : wordAt [a, b, c, d, e, f, g, i] 4 = be32 e f g i := rfl
    simp only [bytesOfBlock, blockOfBytes, hl, hr, wordBytes_be32, List.cons_append, List.nil_append]

/-! ## Bytewise XOR -/

@[simp] theorem xorBytes_length (x y : List Byte) : (xorBytes x y).length = min x.length y.length := by
  simp [xorBytes]

/-- XOR with the same bytes twice gives the first operand back, if the second is at least as long. -/
theorem xorBytes_cancel (x k : List Byte) (h : x.length ≤ k.length) : xorBytes (xorBytes x k) k = x := by
  induction x generalizing k with
  | nil => simp [xorBytes]
  | cons a x ih =>
    cases k with
    | nil => simp at h
    | cons b k =>
      have := ih k (by simpa using h)
      simp only [xorBytes, List.zipWith_cons_cons] at this ⊢
      rw [this, BitVec.xor_assoc, BitVec.xor_self, BitVec.xor_zero]

/-! ## Blocks of a message, and passes over them -/

theorem blkAt_zero (q : List Byte) : blkAt q 0 = q.take 8 := by simp [blkAt]

theorem blkAt_succ (q : List Byte) (i : Nat) : blkAt q (i + 1) = blkAt (q.drop 8) i := by
  simp only [blkAt, List.drop_drop]
  congr 2; omega

theorem blkAt_append_zero {o r : List Byte} (h : o.length = 8) : blkAt (o ++ r) 0 = o := by
  rw [blkAt_zero, ← h, List.take_left]

theorem blkAt_append_succ {o r : List Byte} (h : o.length = 8) (i : Nat) : blkAt (o ++ r) (i + 1) = blkAt r i := by
  rw [blkAt_succ, ← h, List.drop_left]

theorem blocksOf_nil : blocksOf [] = [] := by simp [blocksOf, blockCount]

theorem blocksOf_ne_nil {q : List Byte} (h : q ≠ []) : blocksOf q = q.take 8 :: blocksOf (q.drop 8) := by
  have hl : 0 < q.length := List.length_pos_iff.2 h
  have hc : blockCount q = blockCount (q.drop 8) + 1 := by simp only [blockCount, List.length_drop]; omega
  rw [blocksOf, hc, List.range_succ_eq_map, List.map_cons, blkAt_zero, List.map_map]
  congr 1
  exact List.map_congr_left fun i _ => blkAt_succ q i

/-- Induction over a message block by block. -/
theorem blocks_induction (P : List Byte → Prop) (nil : P []) (step : ∀ q, q ≠ [] → P (q.drop 8) → P q) (q : List Byte) :
    P q := by
  generalize hn : q.length = n
  induction n using Nat.strong_induction_on generalizing q with
  | _ n ih =>
    by_cases hq : q = []
    · exact hq ▸ nil
    · have hl : 0 < q.length := List.length_pos_iff.2 hq
      exact step q hq (ih (q.drop 8).length (by simp only [List.length_drop]; omega) _ rfl)

theorem modePass_nil (d : Dir) (m : Mode) (t : Schedule) (iv : Block) : modePass d m t iv [] = [] := by
  simp [modePass, blocksOf_nil, runPass]

/-- A pass does the first block, then the rest with the CHAIN the first block leaves. -/
theorem modePass_ne_nil (d : Dir) (m : Mode) (t : Schedule) (iv : Block) {q : List Byte} (h : q ≠ []) :
    modePass d m t iv q =
      (modeStep d m t iv (q.take 8)).1 ++ modePass d m t (modeStep d m t iv (q.take 8)).2 (q.drop 8) := by
  simp [modePass, blocksOf_ne_nil h, runPass]

/-- A block step gives as many bytes as it takes: 8 under ECB and CBC, any number up to 8 under CFB. -/
theorem modeStep_length (d : Dir) (m : Mode) (t : Schedule) (c : Block) {b : List Byte} (h8 : b.length ≤ 8)
    (hb : m ≠ .cfb → b.length = 8) : (modeStep d m t c b).1.length = b.length := by
  cases m
  · have := hb (by decide); cases d <;> simp [modeStep, ecbEncStep, ecbDecStep, this]
  · have := hb (by decide); cases d <;> simp [modeStep, cbcEncStep, cbcDecStep, this]
  · cases d <;> simp [modeStep, cfbEncStep, cfbDecStep, h8]

/-- A pass keeps the length: of whole blocks under ECB and CBC, of any message under CFB. -/
theorem modePass_length (d : Dir) (m : Mode) (t : Schedule) (iv : Block) (q : List Byte)
    (h : m ≠ .cfb → q.length % 8 = 0) : (modePass d m t iv q).length = q.length := by
  induction q using blocks_induction generalizing iv with
  | nil => rw [modePass_nil]
  | step q hq ih =>
    have hl : 0 < q.length := List.length_pos_iff.2 hq
    rw [modePass_ne_nil _ _ _ _ hq, List.length_append, modeStep_length, ih]
    · simp only [List.length_take, List.length_drop]; omega
    · intro hm; have := h hm; simp only [List.length_drop]; omega
    · simp
    · intro hm; have := h hm; simp only [List.length_take]; omega

end Sys2Proof.Machine
end

