-- ==== Sys2Proof/Laws/PerInstr.lean ====
section
/-! SUPPORT. Statements made for every instruction as syntax, one lemma per constructor. -/

namespace Sys2Proof.Laws.EncodingFields

/-- The word of `i` has RSV = 0, its opcode in OPC, and that opcode stands for `i` alone in the opcode map (R120, R123). -/
def Statement (i : Instr) : Prop :=
  i.wf = true ∧ rsvField (encode i) = 0#24 ∧ opcField (encode i) = opcode i ∧ decodeOpc (opcode i) = some i

theorem nop : Statement .nop := ⟨rfl, by decide, by decide, by decide⟩
theorem schedule : Statement .schedule := ⟨rfl, by decide, by decide, by decide⟩
theorem encrypt : Statement .encrypt := ⟨rfl, by decide, by decide, by decide⟩
theorem decrypt : Statement .decrypt := ⟨rfl, by decide, by decide, by decide⟩
theorem encblk : Statement .encblk := ⟨rfl, by decide, by decide, by decide⟩
theorem decblk : Statement .decblk := ⟨rfl, by decide, by decide, by decide⟩
theorem clrerr : Statement .clrerr := ⟨rfl, by decide, by decide, by decide⟩
theorem zeroize : Statement .zeroize := ⟨rfl, by decide, by decide, by decide⟩

end Sys2Proof.Laws.EncodingFields
end

