-- ==== Sys2Proof/Tests/Slice0.lean ====
section
/-! SUPPORT. The model's own tests: words written out from the spec's encoding, ill-formed terms, single steps with expected
values from spec/95_test_vectors.md, and for every statement with hypotheses a concrete state that meets them. -/

namespace Sys2Proof.Tests

open Sys2Proof.Machine

/-! ## Small states -/

/-- The smallest engine: MSG_MAX = 8. -/
def tiny : Params := ⟨0, .full, true⟩

def fresh : State := State.resetWith tiny

/-- A fresh engine with a key in KEY and KEYLEN set. -/
def keyed (k : List Byte) : State := { fresh with keylen := BitVec.ofNat 6 k.length, mem := Memory.cells 0x0040 k }

/-- A fresh engine whose (zero) tables count as valid. -/
def valid : State := { fresh with schedValid := true }

/-- A valid engine with CONFIG, IV (IVLEN = 8) and a message in place. -/
def loaded (config : Word) (msg : List Byte) : State :=
  { valid with
    config := config
    ivlen := 8#4
    msglen := BitVec.ofNat 16 msg.length
    mem := Memory.cells 0x0080 [1, 2, 3, 4, 5, 6, 7, 8] ++ Memory.cells 0x4000 msg }

/-- Field `f` of the state a step gives; `d` when it gives none. -/
def after {α : Type} (o : Host.Outcome State Fault Refusal) (f : State → α) (d : α) : α :=
  match o with
  | .next t => f t
  | .fault _ => d
  | .refused _ => d

/-- The next state, when there is one. -/
def nextOf (o : Host.Outcome State Fault Refusal) (d : State) : State := after o id d

def eight (b : Byte) : List Byte := List.replicate 8 b

/-! ## Well-formedness: each check refuses an ill-formed term -/

theorem test_wf_narrow_access : HostOp.wf (.access 8 0x004#16 .read) = false := by decide
theorem test_wf_misaligned_access : HostOp.wf (.access 32 0x002#16 (.write 1#32)) = false := by decide
theorem test_wf_aligned_access : HostOp.wf (.wr 0x004#16 1#32) = true := by decide
theorem test_wf_program : programWf [.wait, .rd 0x006#16] = false := by decide
theorem test_wf_wrbuf_misaligned : Pseudo.wf (.wrbuf 0x4001#16 [0#8]) = false := by decide
theorem test_wf_wrbuf_past_window : Pseudo.wf (.wrbuf 0xFFFC#16 [0, 0, 0, 0, 0]) = false := by decide
theorem test_wf_rdbuf_misaligned : Pseudo.wf (.rdbuf 0x8002#16 1) = false := by decide
theorem test_wf_rdbuf_past_window : Pseudo.wf (.rdbuf 0xFFFC#16 5) = false := by decide
theorem test_wf_commands : ([.nop, .schedule, .encrypt, .decrypt, .encblk, .decblk, .clrerr, .zeroize] : List Instr).all
    Instr.wf = true := by decide

/-! ## Decoding: words written out bit by bit from R120 and R123 (RSV 24 bits, OPC 8 bits) -/

theorem test_decode_nop : decode 0b000000000000000000000000_00000000#32 = .command .nop := by decide
theorem test_decode_schedule : decode 0b000000000000000000000000_00000001#32 = .command .schedule := by decide
theorem test_decode_encrypt : decode 0b000000000000000000000000_00000010#32 = .command .encrypt := by decide
theorem test_decode_decrypt : decode 0b000000000000000000000000_00000011#32 = .command .decrypt := by decide
theorem test_decode_encblk : decode 0b000000000000000000000000_00000100#32 = .command .encblk := by decide
theorem test_decode_decblk : decode 0b000000000000000000000000_00000101#32 = .command .decblk := by decide
theorem test_decode_clrerr : decode 0b000000000000000000000000_00000110#32 = .command .clrerr := by decide
theorem test_decode_zeroize : decode 0b000000000000000000000000_00000111#32 = .command .zeroize := by decide
theorem test_decode_opc_8 : decode 0x00000008#32 = .illegal .unassignedOpcode := by decide
theorem test_decode_rsv : decode 0x00000101#32 = .illegal .reservedField := by decide
theorem test_table_words : (List.range 8).map (decodeTableWord 32) =
    [some .nop, some .schedule, some .encrypt, some .decrypt, some .encblk, some .decblk, some .clrerr, some .zeroize] := by
  decide
theorem test_table_word_illegal : decodeTableWord 32 8 = none := by decide

/-! ## One step per command, values from spec/95_test_vectors.md -/

/-- P5: SCHEDULE with KEYLEN = 3 after reset gives STATUS 0x00000110, with no key byte ever written. -/
theorem test_schedule_key_size :
    after (step (State.withFetchWord { fresh with keylen := 3#6 } 32 1)) State.statusWord 0#32 = 0x00000110#32 := by decide

/-- V-L1-4: KEYLEN = 57 fails too, and KEY is zeroized. -/
theorem test_schedule_key_zeroized :
    after (step (State.withFetchWord { keyed [1] with keylen := 57#6 } 32 1)) (fun t => t.bufBytes .key 56) none
      = some (zeros 56) := by decide

/-- P5: ENCBLK without a schedule gives STATUS 0x00000450. -/
theorem test_encblk_no_schedule : after (step (fresh.withFetchWord 32 4)) State.statusWord 0#32 = 0x00000450#32 := by decide

/-- V-CORE-3: DECBLK without a schedule gives STATUS 0x00000550. -/
theorem test_decblk_no_schedule : after (step (fresh.withFetchWord 32 5)) State.statusWord 0#32 = 0x00000550#32 := by decide

/-- V-CORE-2: ENCBLK of (0, 0) under the constant tables gives 706D9FCC 1792D23A. -/
theorem test_encblk_constant_tables :
    after (step (State.withFetchWord { valid with sched := piSchedule } 32 4)) State.blk Block.zero
      = ⟨0x706D9FCC#32, 0x1792D23A#32⟩ := by decide

/-- V-CORE-2: DECBLK of it gives (0, 0) back. -/
theorem test_decblk_constant_tables :
    after (step (State.withFetchWord { valid with sched := piSchedule, blkL := 0x706D9FCC#32, blkR := 0x1792D23A#32 } 32 5))
      State.blk ⟨1#32, 1#32⟩ = Block.zero := by decide

/-- V-CORE-1: the F function on the constant tables. -/
theorem test_feistelF : [0x00000000#32, 0x01234567#32, 0xFFFFFFFF#32].map (feistelF piSchedule)
    = [0x2FCFF51E#32, 0xF36E574C#32, 0x452C2867#32] := by decide

/-- V-KS-3: KS_XOR with the key 01 02 03 04 05 (first six words of P). -/
theorem test_ksXor_five_bytes : (List.range 6).map (ksXor [1, 2, 3, 4, 5] piSchedule).pAt
    = [0x253D698C#32, 0x80A20AD0#32, 0x171C8B2C#32, 0x00747645#32, 0xA60A3C27#32, 0x289D32D4#32] := by decide

/-- V-KS-1: steps 0 of KS_ENC for the zero key store 706D9FCC 1792D23A in P[0], P[1]. -/
theorem test_ksEnc_step0 :
    (ksEncStep (ksXor (zeros 8) piSchedule, Block.zero) 0).1.pAt 0 = 0x706D9FCC#32 ∧
    (ksEncStep (ksXor (zeros 8) piSchedule, Block.zero) 0).1.pAt 1 = 0x1792D23A#32 := by decide

/-- R275 on V-CORE-2: ECB / none ENCRYPT of eight zero bytes under the constant tables. -/
theorem test_encrypt_constant_tables :
    after (step (State.withFetchWord { loaded 0#32 (eight 0#8) with sched := piSchedule } 32 2))
      (fun t => t.bufBytes .out 16) none
      = some ([0x70, 0x6D, 0x9F, 0xCC, 0x17, 0x92, 0xD2, 0x3A] ++ zeros 8) := by decide

/-- V-MODE-23: MODE = 3 is reported first, SCHED_VALID = 0 or not. -/
theorem test_encrypt_bad_config :
    after (step (State.withFetchWord { fresh with config := 3#32, msglen := 5000#16 } 32 2)) State.errcode .ok
      = .badConfig := by decide

/-- V-MODE-21: DECRYPT of the empty message under ECB / pkcs7 gives PADDING. -/
theorem test_decrypt_empty_pkcs7 :
    after (step (State.withFetchWord (loaded 0x8#32 []) 32 3)) State.statusWord 0#32 = 0x00000342#32 := by decide

/-- V-MODE-19: DECRYPT of 7 bytes under ECB gives DATA_LENGTH. -/
theorem test_decrypt_data_length :
    after (step (State.withFetchWord (loaded 0x4#32 (zeros 7)) 32 3)) State.statusWord 0#32 = 0x00000332#32 := by decide

/-- V-CTL-1: NOP resets ERRCODE, not OVERRUN. -/
theorem test_nop : after (step (State.withFetchWord { valid with errcode := .padding, overrun := true } 32 0))
    State.statusWord 0#32 = 0x00000006#32 := by decide

/-- V-CTL-2: CLRERR. -/
theorem test_clrerr : after (step (State.withFetchWord { valid with overrun := true } 32 6)) State.statusWord 0#32
    = 0x00000602#32 := by decide

/-- V-CTL-3: ZEROIZE. -/
theorem test_zeroize_status : after (step (State.withFetchWord { valid with outlen := 8#16, overrun := true } 32 7))
    (fun t => (t.statusWord, t.outlen)) (0#32, 1#16) = (0x00000700#32, 0#16) := by decide
theorem test_zeroize_iv : after (step (valid.withFetchWord 32 7)) (fun t => t.busRead 0x080#16) none = some 0#32 := by decide

/-- V-CTL-5, V-CTL-8: illegal words. -/
theorem test_illegal_opcode : after (step (valid.withFetchWord 32 8)) State.statusWord 0#32 = 0x00000862#32 := by decide
theorem test_illegal_reserved : after (step (fresh.withFetchWord 32 0x107)) State.statusWord 0#32 = 0x00000760#32 := by
  decide

/-! ## Padding vectors (V-PAD) -/

theorem test_pad_none : padNone [0, 1, 2, 3, 4] = .error .dataLength := by rfl
theorem test_pad_zero_aligned : padZero .full (eight 1#8) = eight 1#8 ++ zeros 8 ∧ padZero .none (eight 1#8) = eight 1#8 := by
  decide
theorem test_pad_pkcs7 : padPkcs7 [0x41, 0x42, 0x43, 0x44, 0x45] = [0x41, 0x42, 0x43, 0x44, 0x45, 3, 3, 3] := by decide
theorem test_unpad_zero : unpadZero [0x41, 0, 0x42, 0, 0, 0, 0, 0] = [0x41, 0, 0x42] := by decide
theorem test_unpad_pkcs7 : unpadPkcs7 [0, 1, 2, 3, 4, 5, 2, 2] = .ok [0, 1, 2, 3, 4, 5] := by rfl
theorem test_unpad_pkcs7_mixed : unpadPkcs7 [0, 1, 2, 3, 4, 5, 3, 2] = .error .padding := by rfl

/-! ## Bus vectors (V-BUS) -/

/-- V-BUS-13: IV words are big-endian. -/
theorem test_bus_iv_bytes :
    ((fresh.hostWrite 0x080#16 0xFEDCBA98#32).hostWrite 0x084#16 0x76543210#32).bufBytes .iv 8
      = some [0xFE, 0xDC, 0xBA, 0x98, 0x76, 0x54, 0x32, 0x10] := by decide
/-- V-BUS-14: an unwritten IV word is a draw. -/
theorem test_bus_iv_undef : fresh.busRead 0x080#16 = none := by decide
/-- V-BUS-11, V-BUS-12 with MSG_MAX = 4096. -/
theorem test_bus_past_buffers : State.reset.busRead 0x5000#16 = some 0#32 ∧ State.reset.busRead 0x9008#16 = some 0#32 ∧
    State.reset.busRead 0x9004#16 = none := by decide
/-- V-BUS-15: a write while BUSY is dropped and sets OVERRUN. -/
theorem test_bus_overrun : (fun t : State => (t.config, t.overrun))
    ((State.issue 0#32 fresh).hostWrite 0x00C#16 1#32) = (0#32, true) := by decide
/-- V-BUS-20: a misaligned access is refused. -/
theorem test_bus_refused : hostStep { fresh with program := [.wr 0x002#16 1#32] } = .refused (.undefinedAccess 32 0x002#16) := by
  rfl
/-- R127: `setcfg CBC, zero` writes 0x5. -/
theorem test_setcfg : expandPseudo (.setcfg .cbc .zero) = [.wr 0x00C#16 0x5#32] := by decide
/-- R127: `wait` goes on while BUSY and ends when BUSY reads 0. -/
theorem test_wait : after (hostStep { State.issue 0#32 fresh with program := [.wait] }) State.program [] = [.wait] ∧
    after (hostStep { fresh with program := [.wait] }) State.program [.wait] = [] := by decide

/-! ## Witnesses: states and operands that meet the hypotheses of each statement -/

/-- A word issued, with its completion step next. -/
def running (w : Nat) : State := State.withFetchWord fresh 32 w

theorem witness_CompletionStep_command : (running 1).nextTurn.1 = .completion ∧ (running 1).nextTurn.2.busy = true ∧
    decode (running 1).nextTurn.2.cmdreg = .command .schedule := by decide
theorem witness_CompletionStep_idle : ({ fresh with turns := [.completion] } : State).nextTurn.1 = .completion ∧
    ({ fresh with turns := [.completion] } : State).nextTurn.2.busy = false := by decide
theorem witness_IllegalWord : (running 0x101).nextTurn.1 = .completion ∧ (running 0x101).nextTurn.2.busy = true ∧
    decode (running 0x101).nextTurn.2.cmdreg = .illegal .reservedField := by decide
theorem witness_CmdWriteIssues : fresh.busy = false := by decide
theorem witness_Busy_issue : ∃ t, step { fresh with program := [.wr 0x004#16 1#32] } = .next t ∧ t.busy = true :=
  ⟨_, rfl, by decide⟩
theorem witness_Busy_completion : ∃ t, (running 0).busy = true ∧ step (running 0) = .next t ∧ t.busy = false :=
  ⟨_, by decide, rfl, by decide⟩
theorem witness_Busy_reset : ∃ t, step { State.issue 0#32 fresh with turns := [.reset] } = .next t ∧ t.busy = false :=
  ⟨_, rfl, by decide⟩
theorem witness_InputsStable : ∃ t, step { State.issue 0#32 fresh with turns := [.sequencer] } = .next t ∧ t.busy = true :=
  ⟨_, rfl, by decide⟩
theorem witness_Terminates : (State.issue 1#32 fresh).busy = true ∧ programWf (State.issue 1#32 fresh).program = true := by
  decide
theorem witness_InternalSteps_check : SequencerReady (State.issue 1#32 (keyed [1, 2, 3, 4])) ∧
    decode (State.issue 1#32 (keyed [1, 2, 3, 4])).cmdreg = .command .schedule :=
  ⟨fun h => absurd h (by decide), by decide⟩
theorem witness_InternalSteps_xor :
    SequencerReady { State.issue 1#32 (keyed [1, 2, 3, 4]) with ksPhase := .xor } :=
  fun _ => ⟨by decide, [1, 2, 3, 4], by decide⟩
theorem witness_KeyWord_lengths : (zeros 4).length = 4 ∧ (zeros 8).length = 8 ∧ (zeros 5).length = 5 ∧
    (zeros 56).length = 56 := by decide
theorem witness_ScheduleDerives_min : (keyed (zeros 4)).keylen.toNat = 4 ∧
    (keyed (zeros 4)).bufBytes .key 4 = some (zeros 4) := by decide
theorem witness_ScheduleDerives_max : (keyed (zeros 56)).keylen.toNat = 56 ∧
    (keyed (zeros 56)).bufBytes .key 56 = some (zeros 56) := by decide
theorem witness_ScheduleRefuses : ({ fresh with keylen := 3#6 } : State).keylen.toNat < 4 ∧
    56 < ({ fresh with keylen := 57#6 } : State).keylen.toNat := by decide
theorem witness_ScheduleFrame : ∃ t, exec .schedule fresh = .next t := ⟨_, rfl⟩
theorem witness_ScheduleDepends : ∃ t t', exec .schedule (keyed (zeros 4)) = .next t ∧
    exec .schedule { keyed (zeros 4) with config := 5#32, schedValid := true } = .next t' ∧
    ∀ i, i < 4 → (keyed (zeros 4)).bufRead .key i ≠ none := ⟨_, _, rfl, rfl, by decide⟩
theorem witness_Sequencer : decode (State.issue 1#32 (keyed (zeros 4))).cmdreg = .command .schedule ∧
    (State.issue 1#32 (keyed (zeros 4))).ksPhase = .check ∧
    (State.issue 1#32 (keyed (zeros 4))).bufBytes .key 4 = some (zeros 4) := by decide
theorem witness_Sequencer_bad : decode (State.issue 1#32 fresh).cmdreg = .command .schedule ∧
    (State.issue 1#32 fresh).ksPhase = .check ∧ (State.issue 1#32 fresh).keylen.toNat < 4 := by decide
theorem witness_BlockCommands : valid.schedValid = true ∧ fresh.schedValid = false ∧
    (∃ t, exec .encblk valid = .next t) ∧ ∃ t, exec .decblk valid = .next t := ⟨rfl, rfl, ⟨_, rfl⟩, ⟨_, rfl⟩⟩
theorem witness_PaddingZero : (¬ ∃ m', ([] : List Byte) = m' ++ [0x00#8]) ∧ ¬ ∃ m', eight 7#8 = m' ++ [0x00#8] := by
  refine ⟨by simp, ?_⟩
  rintro ⟨m', h⟩
  have := congrArg List.getLast? h
  simp [eight] at this
theorem witness_PaddedLengths : (eight 0#8).length ≤ tiny.msgMax ∧
    padMessage tiny.zeroPadAligned .pkcs7 (eight 0#8) = .ok (eight 0#8 ++ eight 8#8) := ⟨by decide, rfl⟩
theorem witness_BlockEquations : (zeros 16).length % 8 = 0 ∧ 1 < (zeros 16).length / 8 ∧
    blkAt (zeros 16) 0 = blkAt (zeros 16) 1 := by decide
/-- ENCRYPT's hypotheses at the largest message, for ECB / none, CBC / pkcs7 and CFB. -/
theorem witness_Encrypt : ∀ c ∈ [0x0#32, 0x9#32, 0x2#32], ∃ m p iv,
    (loaded c (eight 7#8)).mode? = some m ∧ (loaded c (eight 7#8)).pad? = some p ∧
    (loaded c (eight 7#8)).schedValid = true ∧ (m ≠ .ecb → (loaded c (eight 7#8)).ivlen = 8#4) ∧
    (loaded c (eight 7#8)).msglen.toNat ≤ (loaded c (eight 7#8)).params.msgMax ∧
    (loaded c (eight 7#8)).msglen.toNat % 8 = 0 ∧
    (loaded c (eight 7#8)).ivBlock m = some iv ∧ (loaded c (eight 7#8)).message = some (eight 7#8) := by
  intro c hc
  simp only [List.mem_cons, List.not_mem_nil, or_false] at hc
  rcases hc with rfl | rfl | rfl
  · exact ⟨.ecb, .none, Block.zero, by decide⟩
  · exact ⟨.cbc, .pkcs7, ⟨0x01020304#32, 0x05060708#32⟩, by decide⟩
  · exact ⟨.cfb, .none, ⟨0x01020304#32, 0x05060708#32⟩, by decide⟩
/-- DECRYPT's two results under ECB / pkcs7: eight bytes 08 unpad, eight bytes 00 do not (zero tables only swap halves). -/
theorem witness_Decrypt_ok :
    unpadMessage .pkcs7 (modePass .decrypt .ecb valid.sched Block.zero (eight 8#8)) = .ok [] := by rfl
theorem witness_Decrypt_padding :
    unpadMessage .pkcs7 (modePass .decrypt .ecb valid.sched Block.zero (eight 0#8)) = .error .padding := by rfl
/-- Each clause of the check order, at a boundary: MODE = 3; PAD = 3 under CFB; no schedule; IVLEN = 7; MSGLEN = MSG_MAX + 1;
an unaligned length. -/
theorem witness_Checks :
    (({ fresh with config := 0x3#32 } : State).config.extractLsb' 0 2).toNat = 3 ∧
    (({ valid with config := 0xE#32 } : State).config.extractLsb' 2 2).toNat = 3 ∧
    fresh.schedValid = false ∧
    ({ loaded 0x1#32 [] with ivlen := 7#4 } : State).ivlen ≠ 8#4 ∧
    (loaded 0x0#32 (zeros 9)).params.msgMax < (loaded 0x0#32 (zeros 9)).msglen.toNat ∧
    (loaded 0x0#32 (zeros 7)).msglen.toNat ≤ (loaded 0x0#32 (zeros 7)).params.msgMax ∧
    (loaded 0x0#32 (zeros 7)).msglen.toNat % 8 ≠ 0 := by decide
theorem witness_MessageFrame : (∃ t, exec .encrypt (loaded 0#32 (eight 7#8)) = .next t) ∧
    ∃ t, exec .decrypt fresh = .next t := ⟨⟨_, rfl⟩, ⟨_, rfl⟩⟩
theorem witness_CiphertextLength : ∃ t x, exec .encrypt (loaded 0x0#32 (eight 7#8)) = .next t ∧ t.errcode = .ok ∧
    (loaded 0x0#32 (eight 7#8)).mode? = some .ecb ∧ (loaded 0x0#32 (eight 7#8)).pad? = some .none ∧
    (loaded 0x0#32 (eight 7#8)).passInput .ecb = some x := ⟨_, _, rfl, by decide, by decide, by decide, rfl⟩
theorem witness_CiphertextLength_cfb : ∃ t x, exec .encrypt (loaded 0x2#32 [1, 2, 3]) = .next t ∧ t.errcode = .ok ∧
    (loaded 0x2#32 [1, 2, 3]).mode? = some .cfb ∧ (loaded 0x2#32 [1, 2, 3]).passInput .cfb = some x :=
  ⟨_, _, rfl, by decide, by decide, rfl⟩
theorem witness_DataPassRoundTrip : ∃ c, cryptMessage .encrypt .cbc .zero .full Schedule.zero Block.zero (eight 7#8) = .ok c ∧
    ¬ ∃ m', eight 7#8 = m' ++ [0x00#8] := by
  refine ⟨_, rfl, ?_⟩
  rintro ⟨m', h⟩
  have := congrArg List.getLast? h
  simp [eight] at this
/-- ECB / none: eight zero bytes under the constant tables (V-CORE-2), and a state with their ciphertext in IN. -/
def cipherOfZeros : List Byte := [0x70, 0x6D, 0x9F, 0xCC, 0x17, 0x92, 0xD2, 0x3A]
def plainState : State := { loaded 0x0#32 (eight 0#8) with sched := piSchedule }
def cipherState : State := { loaded 0x0#32 cipherOfZeros with sched := piSchedule }
theorem witness_DecryptRestores_encrypt : ∃ t, exec .encrypt plainState = .next t ∧ t.errcode = .ok ∧
    t.outlen.toNat ≤ plainState.params.msgMax := ⟨_, rfl, by decide, by decide⟩
theorem witness_DecryptRestores_output : after (exec .encrypt plainState)
    (fun t => t.bufBytes .out 8) none = some cipherOfZeros := by decide
theorem witness_DecryptRestores_length : after (exec .encrypt plainState) State.outlen 0#16 = 8#16 := rfl
theorem witness_DecryptRestores_decrypt : plainState.passInput .ecb = some (Block.zero, eight 0#8) ∧
    cipherState.message = some cipherOfZeros ∧ cipherState.msglen = 8#16 ∧ cipherState.ivBlock .ecb = some Block.zero ∧
    cipherState.sched = plainState.sched ∧ cipherState.config = plainState.config := by
  refine ⟨by decide, by decide, by decide, by decide, rfl, rfl⟩
theorem witness_Undef_schedule : 4 ≤ ({ fresh with keylen := 4#6 } : State).keylen.toNat ∧
    ({ fresh with keylen := 4#6 } : State).bufRead .key 3 = none := by decide
theorem witness_Undef_message : ({ valid with msglen := 8#16 } : State).checks .encrypt = .ok (.ecb, .none) ∧
    ({ valid with msglen := 8#16 } : State).checks .decrypt = .ok (.ecb, .none) ∧
    ({ valid with msglen := 8#16 } : State).bufRead .inp 7 = none := ⟨rfl, rfl, by decide⟩
theorem witness_Undef_iv : ({ valid with config := 1#32, ivlen := 8#4 } : State).checks .encrypt = .ok (.cbc, .none) ∧
    ({ valid with config := 1#32, ivlen := 8#4 } : State).bufRead .iv 7 = none := ⟨rfl, by decide⟩
theorem witness_Undef_set : ∃ t, exec .schedule { fresh with keylen := 4#6 } = .next t ∧ fresh.faultUndef = false ∧
    t.faultUndef = true := ⟨_, rfl, rfl, by decide⟩
theorem witness_Undef_set_message : ∃ t, exec .decrypt { valid with msglen := 8#16 } = .next t ∧ valid.faultUndef = false ∧
    t.faultUndef = true := ⟨_, rfl, rfl, by decide⟩
theorem witness_Undef_set_iv : ∃ t, exec .encrypt { valid with config := 1#32, ivlen := 8#4 } = .next t ∧
    valid.faultUndef = false ∧ t.faultUndef = true := ⟨_, rfl, rfl, by decide⟩
theorem witness_FaultUndef_sticky : ∃ t, step { fresh with faultUndef := true } = .next t ∧
    ({ fresh with faultUndef := true } : State).nextTurn.1 ≠ .reset := ⟨_, rfl, by decide⟩
theorem witness_FaultUndef_reset : ∃ t, step { fresh with faultUndef := true, turns := [.reset] } = .next t ∧
    ({ fresh with faultUndef := true, turns := [.reset] } : State).nextTurn.1 = .reset := ⟨_, rfl, by decide⟩
theorem witness_BufferReads : (loaded 0#32 (eight 7#8)).busy = false ∧ (loaded 0#32 (eight 7#8)).bufRead .iv 7 = some 8#8 ∧
    (loaded 0#32 (eight 7#8)).bufRead .inp 7 = some 7#8 ∧ (loaded 0#32 (eight 7#8)).bufRead .out 15 = none ∧
    Buf.size tiny .inp ≤ 4 * 2 := by decide
theorem witness_ReadsWhileBusy : (State.issue 0#32 fresh).busy = true := by decide
theorem witness_Readback :
    ({ fresh with params := ⟨0, .full, false⟩ } : State).params.schedReadback = false ∧ fresh.params.schedReadback = true ∧
    (State.issue 0#32 fresh).busy = true ∧ fresh.schedValid = false ∧ valid.schedValid = true ∧ valid.busy = false := by
  decide
theorem witness_ReadsNoSideEffect : fresh.busRead 0x01C#16 = some 0#32 ∧ fresh.busRead 0x084#16 = none := by decide
theorem witness_WritesBusy : (0x074#16 : Offset).toNat % 4 = 0 ∧ (0x4004#16 : Offset).toNat < 0x4000 + tiny.msgMax ∧
    ¬ (0x4008#16 : Offset).toNat < 0x4000 + tiny.msgMax := by decide
/-- The IRQ_STATUS clause and the offset just past IN, with a command running. -/
theorem witness_WritesBusy_irq : (State.issue 0#32 fresh).busy = true ∧ (0x020#16 : Offset).toNat = 0x020 ∧
    (0x020#16 : Offset).toNat % 4 = 0 ∧ (0x4008#16 : Offset).toNat % 4 = 0 := by decide
/-- R90, R47: with a command running and DONE set, a write of 1 to IRQ_STATUS clears DONE and leaves OVERRUN. -/
theorem test_irq_clear_while_busy : let s := State.issue 0#32 { fresh with done := true }
    (s.hostWrite 0x020#16 1#32).done = false ∧ (s.hostWrite 0x020#16 1#32).overrun = false ∧
      (s.hostWrite 0x020#16 0#32).done = true := by decide
/-- R41, R89: STATUS while a command runs, after a DECRYPT that ended in PADDING, with OVERRUN and SCHED_VALID set. -/
theorem test_status_while_busy : (State.issue 2#32
    { fresh with lastOp := 0x03#8, errcode := .padding, overrun := true, schedValid := true }).busRead 0x008#16 =
      some 0x00000347#32 := by decide
theorem witness_Reserved : [0x02C#16, 0x03C#16, 0x078#16, 0x088#16, 0x148#16, 0xFFC#16, 0x2000#16, 0xC000#16, 0xFFFC#16].map locate
    = List.replicate 9 .reserved := by rfl
theorem witness_Refused : (8 : Nat) ≠ 32 ∧ (0x002#16 : Offset).toNat % 4 ≠ 0 ∧ (0x004#16 : Offset).toNat % 4 = 0 := by decide
theorem witness_HostTurn : fresh.nextTurn.1 = .host ∧ ({ fresh with turns := [.host] } : State).nextTurn.1 = .host := by decide
theorem witness_Wait : ({ State.issue 0#32 fresh with program := [.wait] } : State).busy = true ∧ fresh.busy = false := by decide
/-- R10, R83: the first byte of a block is the highest of L, the fifth the highest of R. -/
theorem test_block_packing : blockOfBytes [0x01, 0x23, 0x45, 0x67, 0x89, 0xAB, 0xCD, 0xEF] = ⟨0x01234567#32, 0x89ABCDEF#32⟩ ∧
    bytesOfBlock ⟨0x01234567#32, 0x89ABCDEF#32⟩ = [0x01, 0x23, 0x45, 0x67, 0x89, 0xAB, 0xCD, 0xEF] := by decide
theorem witness_Interrupt : (1#32 : Word).getLsbD 0 = true ∧ (0#32 : Word).getLsbD 0 = false := by decide
theorem witness_KeyUnobservable : ∀ a, ¬ InBuf tiny .key a → Memory.read [(0x0040, 1#8)] a = Memory.read fresh.mem a := by
  intro a ha
  by_cases h : 0x0040 = a
  · subst h; exact absurd ⟨by decide, by decide⟩ ha
  · simp [Memory.read, h, fresh, State.resetWith]
theorem witness_Wrbuf : ∃ s : State, s.busy = false ∧ s.turns = [] ∧ (eight 7#8).length ≤ s.params.msgMax ∧
    s.program = expandPseudo (.wrbuf 0x4000#16 (eight 7#8)) :=
  ⟨{ fresh with program := expandPseudo (.wrbuf 0x4000#16 (eight 7#8)) }, rfl, rfl, by decide, rfl⟩
theorem witness_Writers : (∃ t, exec .nop fresh = .next t) ∧ (∃ t, exec .encrypt fresh = .next t) ∧
    ∃ t, exec .schedule fresh = .next t := ⟨⟨_, rfl⟩, ⟨_, rfl⟩, ⟨_, rfl⟩⟩
theorem witness_Reset : ({ loaded 5#32 (eight 7#8) with turns := [.reset] } : State).nextTurn.1 = .reset := by decide

/-- A state other than reset that meets the invariant, with a step. -/
theorem witness_Invariant_inv : StateInv { fresh with keylen := 8#6 } := by
  refine ⟨⟨.inr ⟨rfl, rfl⟩, .inr rfl, .inr ⟨rfl, rfl⟩⟩, ?_, ?_, ?_, rfl, ?_, ?_, ?_⟩
  · exact ⟨fun h => absurd h (by decide), fun h => absurd h (by decide), fun _ _ => rfl, by decide, by decide⟩
  · exact fun h => absurd h (by decide)
  · exact fun h => absurd h (by decide)
  · exact ⟨Memory.wf_nil, fun c h => absurd h (by simp [fresh, State.resetWith])⟩
  · exact fun h => absurd h (by decide)
  · exact fun _ => ⟨by decide, .inl ⟨rfl, fun i _ => rfl⟩⟩
theorem witness_Invariant_step : ∃ t, step { fresh with keylen := 8#6 } = .next t := ⟨_, rfl⟩

end Sys2Proof.Tests
end

section
/-! Lemmas on the lengths of padded and unpadded messages (spec/44_padding.md), of a command's data operands, and of what
ENCRYPT and DECRYPT commit: the result always fits OUT. -/

namespace Sys2Proof.Machine

/-- Zero padding gives whole blocks and adds at most one (R242). -/
theorem padZero_length (z : ZeroPadAligned) (m : List Byte) :
    (padZero z m).length ≤ m.length + 8 ∧ (padZero z m).length % 8 = 0 := by
  unfold padZero zeros
  dsimp only
  split
  · simp only [List.length_append, List.length_replicate]; omega
  · split
    · omega
    · cases z
      · simp only [List.length_append, List.length_replicate]; omega
      · dsimp only; omega

/-- Every padding gives whole blocks and adds at most one (R240). -/
theorem padMessage_length {z : ZeroPadAligned} {p : Pad} {m q : List Byte} (h : padMessage z p m = .ok q) :
    q.length ≤ m.length + 8 ∧ q.length % 8 = 0 := by
  cases p with
  | none =>
    simp only [padMessage, padNone] at h
    split at h
    · cases h
    · cases h; omega
  | zero => cases h; exact padZero_length z m
  | pkcs7 => cases h; simp only [padPkcs7, List.length_append, List.length_replicate]; omega

/-- Zero unpadding adds nothing (R243). -/
theorem unpadZero_length_le (q : List Byte) : (unpadZero q).length ≤ q.length := by
  rw [unpadZero, List.length_reverse, ← List.length_reverse (as := q)]
  exact (List.dropWhile_sublist _).length_le

/-- PKCS#7 unpadding adds nothing (R246). -/
theorem unpadPkcs7_length_le {q r : List Byte} (h : unpadPkcs7 q = .ok r) : r.length ≤ q.length := by
  unfold unpadPkcs7 at h
  dsimp only at h
  split at h
  · cases h
  · split at h
    · cases h
    · split at h
      · cases h; exact List.length_take_le' _ _
      · cases h

/-- No unpadding makes a message longer (R240). -/
theorem unpadMessage_length_le {p : Pad} {q r : List Byte} (h : unpadMessage p q = .ok r) : r.length ≤ q.length := by
  cases p with
  | none => cases h; exact le_rfl
  | zero => cases h; exact unpadZero_length_le q
  | pkcs7 => exact unpadPkcs7_length_le h

/-- The bytes a pass runs over: at most a block more than the message, and whole blocks under ECB and CBC, where a
DECRYPT's message already is (R273, R274). -/
theorem passBytes_length {d : Dir} {m : Mode} {p : Pad} {z : ZeroPadAligned} {msg q : List Byte}
    (h : passBytes d m p z msg = .ok q) (hd : blockAligned m = true → d = .decrypt → msg.length % 8 = 0) :
    q.length ≤ msg.length + 8 ∧ (blockAligned m = true → q.length % 8 = 0) := by
  cases d with
  | encrypt =>
    simp only [passBytes] at h
    split at h
    · obtain ⟨hle, hblocks⟩ := padMessage_length h
      exact ⟨hle, fun _ => hblocks⟩
    · cases h; exact ⟨by omega, fun ha => absurd ha ‹_›⟩
  | decrypt => cases h; exact ⟨by omega, fun ha => hd ha rfl⟩

/-- What is committed is no longer than the pass's output (R274). -/
theorem passResult_length_le {d : Dir} {m : Mode} {p : Pad} {r q : List Byte} (h : passResult d m p r = .ok q) :
    q.length ≤ r.length := by
  cases d with
  | encrypt => cases h; exact le_rfl
  | decrypt =>
    simp only [passResult] at h
    split at h
    · exact unpadMessage_length_le h
    · cases h; exact le_rfl

/-- The result of a data pass is at most a block longer than the message. -/
theorem cryptMessage_length_le {d : Dir} {m : Mode} {p : Pad} {z : ZeroPadAligned} {t : Schedule} {iv : Block}
    {msg r : List Byte} (h : cryptMessage d m p z t iv msg = .ok r)
    (hd : blockAligned m = true → d = .decrypt → msg.length % 8 = 0) : r.length ≤ msg.length + 8 := by
  unfold cryptMessage at h
  split at h
  · cases h
  · rename_i q hq
    obtain ⟨hle, hblocks⟩ := passBytes_length hq hd
    have hpass : (modePass d m t iv q).length = q.length :=
      modePass_length d m t iv q fun hm => hblocks (by cases m <;> trivial)
    have hres := passResult_length_le h
    omega

/-- The message operand has MSGLEN bytes (R271). -/
theorem State.message_length_of_passInput {s : State} {m : Mode} {iv : Block} {msg : List Byte}
    (h : s.passInput m = some (iv, msg)) : msg.length = s.msglen.toNat := by
  unfold State.passInput at h
  split at h
  · rename_i hmsg
    cases h
    exact (Memory.readRange_eq_some.1 hmsg).1
  · cases h

/-- Once the checks of R346 have passed, the result of the data pass fits OUT. -/
theorem State.cryptMessage_fits_out {s : State} {d : Dir} {m : Mode} {p : Pad} {iv : Block} {msg r : List Byte}
    (hc : s.checks d = .ok (m, p)) (hi : s.passInput m = some (iv, msg))
    (hr : cryptMessage d m p s.params.zeroPadAligned s.sched iv msg = .ok r) :
    r.length ≤ Buf.size s.params .out := by
  obtain ⟨-, -, -, -, hmax, haligned⟩ := State.checks_eq_ok.1 hc
  have hlen := State.message_length_of_passInput hi
  have hle := cryptMessage_length_le hr fun ha hd => hlen ▸ haligned ha (.inl hd)
  show r.length ≤ s.params.msgMax + 8
  omega

end Sys2Proof.Machine
end

section
/-! Inversion lemmas: what one internal step of the running command can do (R150, R203, R270), and what one host write can
do (R86, R87, R90, R91). -/

namespace Sys2Proof.Machine

/-! ## Internal steps -/

/-- A step of the key-schedule sequencer does nothing, or enters a phase with KS_IDX at 0, which but for KS_DONE is past
KS_CHECK, or counts KS_IDX up within KS_XOR or KS_ENC. -/
theorem State.ksTick_cases (s : State) :
    s.ksTick = s ∨
    (∃ t x y p, s.ksTick = { s with sched := t, xl := x, xr := y, ksPhase := p, ksIdx := 0#10 } ∧
      (p = .done ∨ (SequencerReady s → s.keyLengthOk = true ∧ ∃ k, s.keyBytes = some k))) ∨
    (∃ t x y, s.ksTick = { s with sched := t, xl := x, xr := y, ksIdx := s.ksIdx + 1#10 } ∧
      (s.ksPhase = .xor ∧ s.ksIdx.toNat < 17 ∨ s.ksPhase = .enc ∧ s.ksIdx.toNat < 520)) := by
  unfold State.ksTick
  split
  next => exact .inl rfl
  next =>
    split
    · exact .inr (.inl ⟨_, _, _, _, rfl, .inl rfl⟩)
    · rename_i hok
      split
      · exact .inl rfl
      · exact .inr (.inl ⟨_, _, _, _, rfl, .inr fun _ => ⟨by simpa using hok, _, ‹_›⟩⟩)
  next hp => exact .inr (.inl ⟨_, _, _, _, rfl, .inr fun hr => hr (.inl hp)⟩)
  next hp =>
    split
    · exact .inl rfl
    · dsimp only [State.ksXorTick]
      split
      · exact .inr (.inr ⟨_, _, _, rfl, .inl ⟨hp, ‹_›⟩⟩)
      · exact .inr (.inl ⟨_, _, _, _, rfl, .inr fun hr => hr (.inr (.inl hp))⟩)
  next hp =>
    dsimp only [State.ksEncTick]
    split
    · exact .inr (.inr ⟨_, _, _, rfl, .inr ⟨hp, ‹_›⟩⟩)
    · exact .inr (.inl ⟨_, _, _, _, rfl, .inl rfl⟩)
  next => exact .inl rfl

/-- A step of the block core does nothing, or runs one of the 16 rounds. -/
theorem State.coreTick_cases (f : Schedule → Block → Nat → Block) (s : State) :
    s.coreTick f = s ∨
    (s.rnd.toNat < 16 ∧ ∃ x y, s.coreTick f = { s with xl := x, xr := y, rnd := s.rnd + 1#5 }) := by
  unfold State.coreTick
  split
  · exact .inl rfl
  · split
    · exact .inr ⟨‹_›, _, _, rfl⟩
    · exact .inl rfl

/-- A step of the mode controller does nothing, or runs one of the MSG_MAX/8 blocks BLK_IDX can count. -/
theorem State.modeTick_cases (d : Dir) (s : State) :
    s.modeTick d = s ∨
    (s.blkIdx.toNat < s.params.msgMax / 8 ∧
      ∃ c, s.modeTick d = { s with chain := c, blkIdx := s.blkIdx + 1#11 }) := by
  unfold State.modeTick
  split
  · exact .inl rfl
  split
  · exact .inl rfl
  split
  · exact .inl rfl
  dsimp only
  split
  · exact .inr ⟨And.right ‹_›, _, rfl⟩
  · exact .inl rfl

/-! ## Host writes -/

/-- What a host write of `v` can do to `s`: the accepted effects need an idle engine (R91), and a write to a command's input
while BUSY only sets OVERRUN (R90). `operand` does not say which of the five operand registers takes which value. -/
inductive HostWriteEffect (v : Word) (s : State) : State → Prop where
  | ignored : HostWriteEffect v s s
  | doneCleared : HostWriteEffect v s { s with done := false }
  | dropped : HostWriteEffect v s { s with overrun := true }
  | issued (idle : s.busy = false) : HostWriteEffect v s (s.issue v)
  | configured (idle : s.busy = false) : HostWriteEffect v s { s with config := v &&& configMask }
  | operand (idle : s.busy = false) (kl : BitVec 6) (il : BitVec 4) (ml : BitVec 16) (l r : Word) :
      HostWriteEffect v s { s with keylen := kl, ivlen := il, msglen := ml, blkL := l, blkR := r }
  | stored (idle : s.busy = false) (b : Buf) (i : Nat) (notOut : b ≠ .out) (fits : i + 4 ≤ b.size s.params) :
      HostWriteEffect v s (s.bufWrite b i (wordBytes v))

/-- A write to a command's input: the accepted effect if the engine is idle, else dropped. -/
theorem HostWriteEffect.of_whenIdle {v : Word} {s s' : State} (h : s.busy = false → HostWriteEffect v s s') :
    HostWriteEffect v s (s.whenIdle s') := by
  unfold State.whenIdle
  split
  · exact .dropped
  · exact h (by simpa using ‹¬ s.busy = true›)

/-- A host write at an aligned offset has one of the effects listed. -/
theorem State.hostWrite_effect (s : State) {off : Offset} (v : Word) (ha : off.toNat % 4 = 0) :
    HostWriteEffect v s (s.hostWrite off v) := by
  have hmax : s.params.msgMax % 8 = 0 := by simp [Params.msgMax]
  refine locateNat_cases off.toNat ha (fun l => locate off = l → HostWriteEffect v s (s.hostWrite off v))
    ?id ?cmd ?status ?config ?keylen ?ivlen ?msglen ?outlen ?irqStatus ?blkL ?blkR ?key ?iv ?pwin ?swin ?inwin ?outwin
    ?reserved rfl <;> intro ho hl <;> simp only [State.hostWrite, hl]
  case cmd => exact .of_whenIdle .issued
  case config => exact .of_whenIdle .configured
  case keylen => exact .of_whenIdle fun hb => .operand hb _ s.ivlen s.msglen s.blkL s.blkR
  case ivlen => exact .of_whenIdle fun hb => .operand hb s.keylen _ s.msglen s.blkL s.blkR
  case msglen => exact .of_whenIdle fun hb => .operand hb s.keylen s.ivlen _ s.blkL s.blkR
  case blkL => exact .of_whenIdle fun hb => .operand hb s.keylen s.ivlen s.msglen _ s.blkR
  case blkR => exact .of_whenIdle fun hb => .operand hb s.keylen s.ivlen s.msglen s.blkL _
  case irqStatus =>
    split
    · exact .doneCleared
    · exact .ignored
  case key =>
    exact .of_whenIdle fun hb => .stored hb .key _ (by decide) (by simp only [Buf.size, Config.keyMax]; omega)
  case iv =>
    exact .of_whenIdle fun hb => .stored hb .iv _ (by decide) (by simp only [Buf.size, Config.ivBytes]; omega)
  case inwin =>
    split
    · rename_i hj
      simp only [Buf.size] at hj
      exact .of_whenIdle fun hb => .stored hb .inp _ (by decide) (by simp only [Buf.size]; omega)
    · exact .ignored
  all_goals exact .ignored

end Sys2Proof.Machine
end

section
/-! The invariant: what a command's own writes must leave so that the completion writes restore it, and one preservation
lemma per kind of step. -/

namespace Sys2Proof.Machine

/-! ## The part of the invariant that holds between commands -/

/-- What the invariant says of a state apart from the sequencing registers and SCHED_VALID during a command: with those at
rest it is the whole invariant (`StateInv.of_atRest`). -/
structure Settled (s : State) : Prop where
  chain   : s.chain = Block.zero
  config  : ConfigReservedZero s
  memory  : MemoryInBuffers s
  derived : ScheduleDerived s
  out     : OutShape s

/-- An idle engine at rest meets the invariant when its settings, tables and buffers do. -/
theorem StateInv.of_atRest {s : State} (hb : s.busy = false) (hrest : AtRest s) (hs : Settled s) : StateInv s := by
  obtain ⟨hphase, hidx, hrnd, hblk⟩ := hrest
  refine ⟨⟨.inr ⟨hphase, hidx⟩, .inr hrnd, .inr ⟨hblk, hs.chain⟩⟩, ?_, ?_, ?_, hs.config, hs.memory, hs.derived, hs.out⟩
  · exact ⟨by simp [hphase], by simp [hphase], fun _ _ => hidx, by simp [hrnd], by simp [hblk]⟩
  · simp [SequencerReady, hphase]
  · simp [InvalidWhileRewritten, hb]

/-- The completion writes restore the invariant, with any code (R342). -/
theorem Settled.complete {s : State} (h : Settled s) (e : ErrCode) : StateInv (s.complete e) :=
  .of_atRest rfl ⟨rfl, rfl, rfl, rfl⟩ ⟨h.chain, h.config, h.memory, h.derived, h.out⟩

/-- CHAIN is 0 but in an ENCRYPT or DECRYPT (R52), so the invariant leaves every other state settled. -/
theorem StateInv.settled {s : State} (h : StateInv s)
    (hn : s.busy = true → decode s.cmdreg ≠ .command .encrypt ∧ decode s.cmdreg ≠ .command .decrypt) : Settled s := by
  obtain ⟨-, -, hchain⟩ := h.confined
  refine ⟨?_, h.config, h.memory, h.derived, h.out⟩
  rcases hchain with ⟨hb, he | hd⟩ | ⟨-, hc⟩
  · exact absurd he (hn hb).1
  · exact absurd hd (hn hb).2
  · exact hc

theorem StateInv.settled_of_idle {s : State} (h : StateInv s) (hb : s.busy = false) : Settled s :=
  h.settled (by simp [hb])

theorem StateInv.atRest_of_idle {s : State} (h : StateInv s) (hb : s.busy = false) : AtRest s := by
  obtain ⟨⟨hbusy, -⟩ | ⟨hphase, hidx⟩, hrnd, hchain⟩ := h.confined
  · exact absurd hbusy (by simp [hb])
  rcases hrnd with ⟨hbusy, -⟩ | hrnd
  · exact absurd hbusy (by simp [hb])
  rcases hchain with ⟨hbusy, -⟩ | ⟨hblk, -⟩
  · exact absurd hbusy (by simp [hb])
  exact ⟨hphase, hidx, hrnd, hblk⟩

/-- Nothing in the invariant speaks of the host, the interleaving, the count of draws, XL, XR, DONE or OVERRUN. -/
theorem StateInv.unobserved {s : State} (h : StateInv s) {p : List HostOp} {r : List (Offset × Word)} {ts : List Turn}
    {n : Nat} {x y : Word} {d o : Bool} :
    StateInv { s with program := p, reads := r, turns := ts, draws := n, xl := x, xr := y, done := d, overrun := o } :=
  ⟨h.confined, h.bounded, h.ready, h.invalid, h.config, h.memory, h.derived, h.out⟩

theorem StateInv.spendDatapath {s : State} (h : StateInv s) : StateInv s.spendDatapath := h.unobserved

/-- Once the run has consumed an undef byte, the invariant promises nothing of the tables and of OUT (R358). -/
theorem Settled.of_marked {s : State} (hf : s.faultUndef = true) (hchain : s.chain = Block.zero)
    (hconfig : ConfigReservedZero s) (hmem : MemoryInBuffers s) : Settled s :=
  ⟨hchain, hconfig, hmem, fun _ h0 => absurd (hf.symm.trans h0) (by decide),
    fun h0 => absurd (hf.symm.trans h0) (by decide)⟩

/-- Tables derived from a key of an accepted length may be marked valid (R33). -/
theorem Settled.setDerived {s : State} (h : Settled s) {k : List Byte} {t : Schedule} (ht : t = derive k)
    (hmin : Config.keyMin ≤ k.length) (hmax : k.length ≤ Config.keyMax) :
    Settled { s with sched := t, schedValid := true } :=
  ⟨h.chain, h.config, h.memory, fun _ _ => ⟨k, hmin, hmax, ht⟩, h.out⟩

/-! ## Memory -/

theorem ConfigReservedZero.of_eq {s t : State} (h : ConfigReservedZero s) (hc : t.config = s.config) :
    ConfigReservedZero t := by
  unfold ConfigReservedZero
  rw [hc]
  exact h

theorem MemoryInBuffers.of_eq {s t : State} (h : MemoryInBuffers s) (hmem : t.mem = s.mem) (hp : t.params = s.params) :
    MemoryInBuffers t := by
  unfold MemoryInBuffers
  rw [hmem, hp]
  exact h

theorem OutShape.of_eq {s t : State} (h : OutShape s) (hmem : t.mem = s.mem) (hp : t.params = s.params)
    (hlen : t.outlen = s.outlen) (hf : t.faultUndef = s.faultUndef) : OutShape t := by
  unfold OutShape FaultFree State.bufRead at *
  rw [hmem, hp, hlen, hf]
  exact h

/-- A store inside a buffer keeps memory canonical and inside the buffers. -/
theorem MemoryInBuffers.bufWrite {s : State} (h : MemoryInBuffers s) {b : Buf} {i : Nat} {bs : List Byte}
    (hfit : i + bs.length ≤ b.size s.params) : MemoryInBuffers (s.bufWrite b i bs) := by
  obtain ⟨hwf, hin⟩ := h
  refine ⟨Memory.wf_write hwf _ _, fun c hc => ?_⟩
  rcases Memory.mem_write hc with ⟨hlo, hhi⟩ | hold
  · exact ⟨b, by omega, show c.1 < b.base + b.size s.params by omega⟩
  · exact hin c hold

@[simp] theorem zeros_length (n : Nat) : (zeros n).length = n := List.length_replicate

theorem MemoryInBuffers.bufClear {s : State} (h : MemoryInBuffers s) (b : Buf) : MemoryInBuffers (s.bufClear b) :=
  h.bufWrite (by simp)

/-- Making a buffer undef keeps memory canonical and inside the buffers. -/
theorem MemoryInBuffers.bufUndef {s : State} (h : MemoryInBuffers s) (b : Buf) : MemoryInBuffers (s.bufUndef b) := by
  obtain ⟨hwf, hin⟩ := h
  exact ⟨Memory.wf_erase hwf _ _, fun c hc => hin c (Memory.mem_erase hc)⟩

/-- A store inside one buffer leaves the bytes of another. -/
theorem State.bufRead_bufWrite_of_ne (s : State) {b b' : Buf} {i j : Nat} {bs : List Byte} (hne : b ≠ b')
    (hfit : i + bs.length ≤ b.size s.params) (hj : j < b'.size s.params) :
    (s.bufWrite b i bs).bufRead b' j = s.bufRead b' j := by
  refine Memory.read_write_outside ?_
  by_contra hc
  exact hne (InBuf.unique s.params (a := b'.base + j) ⟨by omega, by omega⟩ ⟨by omega, by omega⟩)

/-- A store inside another buffer keeps the shape of OUT. -/
theorem OutShape.bufWrite {s : State} (h : OutShape s) {b : Buf} {i : Nat} {bs : List Byte} (hne : b ≠ .out)
    (hfit : i + bs.length ≤ b.size s.params) : OutShape (s.bufWrite b i bs) := by
  intro hf
  have hread : ∀ j, j < Buf.size s.params .out → (s.bufWrite b i bs).bufRead .out j = s.bufRead .out j :=
    fun j hj => s.bufRead_bufWrite_of_ne hne hfit hj
  obtain ⟨hlen, hshape⟩ := h hf
  refine ⟨hlen, hshape.imp (fun ⟨h0, hundef⟩ => ⟨h0, fun j hj => ?_⟩) fun ⟨hdata, hzero⟩ =>
    ⟨fun j hj => ?_, fun j hlo hj => ?_⟩⟩
  · rw [hread j hj]; exact hundef j hj
  · rw [hread j (lt_of_lt_of_le hj hlen)]; exact hdata j hj
  · rw [hread j hj]; exact hzero j hlo hj

/-- A store inside KEY, IV or IN leaves a settled state settled. -/
theorem Settled.bufWrite {s : State} (h : Settled s) {b : Buf} {i : Nat} {bs : List Byte} (hne : b ≠ .out)
    (hfit : i + bs.length ≤ b.size s.params) : Settled (s.bufWrite b i bs) :=
  ⟨h.chain, h.config, h.memory.bufWrite hfit, h.derived, h.out.bufWrite hne hfit⟩

theorem Settled.bufClear {s : State} (h : Settled s) {b : Buf} (hne : b ≠ .out) : Settled (s.bufClear b) :=
  h.bufWrite hne (by simp)

/-! ## Commits to OUT (R272) -/

/-- What a commit stores in OUT is OUT's size. -/
theorem committed_length {r : List Byte} {n : Nat} (hr : r.length ≤ n) : (r ++ zeros (n - r.length)).length = n := by
  rw [List.length_append, zeros_length]; omega

/-- A commit of a result that fits leaves OUT in the shape of R37. -/
theorem State.outShape_commit (s : State) {r : List Byte} (hr : r.length ≤ Buf.size s.params .out) :
    OutShape (s.commit r) := by
  have hlen : (s.commit r).outlen.toNat = r.length := by
    have hmax := msgMax_le s.params
    simp only [Buf.size] at hr
    rw [State.commit_outlen, BitVec.toNat_ofNat, Nat.mod_eq_of_lt (by omega)]
  have hread : ∀ i, i < Buf.size s.params .out →
      (s.commit r).bufRead .out i = (r ++ zeros (Buf.size s.params .out - r.length))[i]? := fun i hi => by
    have hi' : i < (r ++ zeros (Buf.size s.params .out - r.length)).length := by rwa [committed_length hr]
    rw [List.getElem?_eq_getElem hi']
    exact Memory.read_write_inside hi'
  refine fun _ => ⟨hlen ▸ hr, .inr ⟨fun i hi => ?_, fun i hlo hi => ?_⟩⟩
  · rw [hlen] at hi
    rw [hread i (lt_of_lt_of_le hi hr), List.getElem?_append_left hi, List.getElem?_eq_getElem hi]
    exact Option.some_ne_none _
  · rw [hlen] at hlo
    rw [State.commit_params] at hi
    rw [hread i hi, List.getElem?_append_right hlo, zeros, List.getElem?_replicate, if_pos (by omega)]

/-- The commit on an error is the commit of an empty result. -/
theorem State.commitError_eq_commit (s : State) : s.commitError = s.commit [] := rfl

/-- A commit of a result that fits leaves a settled state. -/
theorem StateInv.settled_commit {s : State} (h : StateInv s) {r : List Byte}
    (hr : r.length ≤ Buf.size s.params .out) : Settled (s.commit r) :=
  ⟨rfl, h.config, h.memory.bufWrite (by rw [committed_length hr, Nat.zero_add]), h.derived, s.outShape_commit hr⟩

theorem StateInv.settled_commitError {s : State} (h : StateInv s) : Settled s.commitError :=
  s.commitError_eq_commit ▸ h.settled_commit (Nat.zero_le _)

/-! ## Completions (R342) -/

/-- ENCRYPT and DECRYPT keep the invariant: each commit is settled, and the path without a defined result marks the run. -/
theorem StateInv.cryptCommand {s : State} (h : StateInv s) (d : Dir) : StateInv (s.cryptCommand d) := by
  rcases s.cryptCommand_cases d with ⟨e, -, hs⟩ | ⟨m, p, -, -, hs⟩ | ⟨m, p, iv, msg, r, hc, hi, hr, hs⟩ |
    ⟨m, p, iv, msg, e, -, -, -, hs⟩ <;> rw [hs]
  · exact h.settled_commitError.complete e
  · exact .of_atRest rfl ⟨rfl, rfl, rfl, rfl⟩
      (.of_marked rfl rfl (h.config.of_eq rfl) ((h.memory.bufUndef .out).of_eq rfl rfl))
  · exact (h.spendDatapath.settled_commit (State.cryptMessage_fits_out hc hi hr)).complete .ok
  · exact h.spendDatapath.settled_commitError.complete e

/-- SCHEDULE keeps the invariant: it refuses the key, or marks the run, or leaves the tables derived from a key of an accepted
length (R152, R163). -/
theorem Settled.execSchedule {s t : State} (hs : Settled s) (he : Machine.execSchedule s = .next t) : StateInv t := by
  rcases execSchedule_cases s with ⟨-, hx⟩ | ⟨-, -, hx⟩ | ⟨k, hok, hk, hx⟩ <;>
    obtain rfl := Host.Outcome.next.inj (he.symm.trans hx)
  · exact (hs.bufClear (by decide)).complete _
  · exact .of_atRest rfl ⟨rfl, rfl, rfl, rfl⟩ (.of_marked rfl (by simpa [State.scheduleUndef] using hs.chain)
      (hs.config.of_eq (by simp [State.scheduleUndef]))
      ((hs.memory.bufUndef .key).of_eq (by simp [State.scheduleUndef]) (by simp [State.scheduleUndef])))
  · have hlen : k.length = s.keylen.toNat := (Memory.readRange_eq_some.1 hk).1
    obtain ⟨hmin, hmax⟩ := State.keyLengthOk_iff.1 hok
    have hspent : Settled s.spendDatapath := ⟨hs.chain, hs.config, hs.memory, hs.derived, hs.out⟩
    exact ((hspent.bufClear (by decide)).setDerived rfl (hlen ▸ hmin) (hlen ▸ hmax)).complete _

/-- ENCBLK and DECBLK write BLK, of which the invariant says nothing. -/
theorem Settled.transformBlk {s : State} (h : Settled s) (f : Schedule → Block → Block) :
    StateInv (s.transformBlk f) := by
  rcases s.transformBlk_cases f with ⟨-, hs⟩ | ⟨-, hs⟩ <;> rw [hs]
  · exact h.complete _
  · refine Settled.complete ?_ _
    exact ⟨h.chain, h.config, h.memory, h.derived, h.out⟩

/-- ZEROIZE leaves every buffer zero, so OUT holds no byte and zeros, and no schedule. -/
theorem Settled.zeroize {s : State} (h : Settled s) : Settled s.zeroize :=
  ⟨rfl, h.config.of_eq rfl, ((((h.memory.bufClear .key).bufClear .iv).bufClear .inp).bufClear .out).of_eq rfl rfl,
    fun hv => (nomatch hv),
    ((((s.bufClear .key).bufClear .iv).bufClear .inp).outShape_commit (r := []) (Nat.zero_le _)).of_eq
      rfl rfl rfl rfl⟩

/-- Every completion keeps the invariant. -/
theorem StateInv.completionStep {s t : State} (h : StateInv s) (he : Machine.completionStep s = .next t) : StateInv t := by
  unfold Machine.completionStep at he
  rcases hd : decode s.cmdreg with i | why <;> rw [hd] at he
  · have hsettled : i ≠ .encrypt → i ≠ .decrypt → Settled s := fun hne hnd => h.settled fun _ => by simp [hd, hne, hnd]
    cases i with
    | nop => cases he; exact (hsettled (by decide) (by decide)).complete _
    | schedule => exact (hsettled (by decide) (by decide)).execSchedule he
    | encrypt => cases he; exact h.cryptCommand .encrypt
    | decrypt => cases he; exact h.cryptCommand .decrypt
    | encblk => cases he; exact (hsettled (by decide) (by decide)).transformBlk _
    | decblk => cases he; exact (hsettled (by decide) (by decide)).transformBlk _
    | clrerr =>
      cases he
      have hs := hsettled (by decide) (by decide)
      refine Settled.complete ?_ _
      exact ⟨hs.chain, hs.config, hs.memory, hs.derived, hs.out⟩
    | zeroize => cases he; exact (hsettled (by decide) (by decide)).zeroize.complete _
  · cases he
    exact (h.settled fun _ => by simp [hd]).complete _

/-! ## Internal steps -/

/-- A sequencer step under SCHEDULE keeps the invariant: SCHED_VALID is 0, so the tables may be anything. -/
theorem StateInv.ksTick {s : State} (h : StateInv s) (hb : s.busy = true) (hd : decode s.cmdreg = .command .schedule) :
    StateInv s.ksTick := by
  have hinvalid : s.schedValid ≠ true := by simp [h.invalid hb (.inl hd)]
  obtain ⟨-, hrnd, hchain⟩ := h.confined
  obtain ⟨hxor, henc, hother, hrnd16, hblk⟩ := h.bounded
  rcases s.ksTick_cases with hs | ⟨t, x, y, p, hs, hready⟩ | ⟨t, x, y, hs, hcount⟩ <;> rw [hs]
  · exact h
  · refine ⟨⟨.inl ⟨hb, hd⟩, hrnd, hchain⟩, ?_, ?_, h.invalid, h.config, h.memory, fun hv => absurd hv hinvalid, h.out⟩
    · exact ⟨fun _ => by simp, fun _ => by simp, fun _ _ => rfl, hrnd16, hblk⟩
    · rintro hp
      rcases hready with rfl | hready
      · simp at hp
      · exact hready h.ready
  · refine ⟨⟨.inl ⟨hb, hd⟩, hrnd, hchain⟩, ?_, h.ready, h.invalid, h.config, h.memory, fun hv => absurd hv hinvalid,
      h.out⟩
    have hidx : (s.ksIdx + 1#10).toNat = s.ksIdx.toNat + 1 := by
      simp only [BitVec.toNat_add, BitVec.toNat_ofNat]; omega
    rcases hcount with ⟨hp, hi⟩ | ⟨hp, hi⟩
    · exact ⟨fun _ => by simp only [hidx]; omega, fun hp' => by simp [hp] at hp', fun hp' => absurd hp hp', hrnd16, hblk⟩
    · exact ⟨fun hp' => by simp [hp] at hp', fun _ => by simp only [hidx]; omega, fun _ hp' => absurd hp hp', hrnd16, hblk⟩

/-- A round under ENCBLK or DECBLK keeps the invariant. -/
theorem StateInv.coreTick {s : State} (h : StateInv s) (hb : s.busy = true)
    (hd : decode s.cmdreg = .command .encblk ∨ decode s.cmdreg = .command .decblk)
    (f : Schedule → Block → Nat → Block) : StateInv (s.coreTick f) := by
  obtain ⟨hks, -, hchain⟩ := h.confined
  obtain ⟨hxor, henc, hother, -, hblk⟩ := h.bounded
  rcases s.coreTick_cases f with hs | ⟨hlt, x, y, hs⟩ <;> rw [hs]
  · exact h
  · have hrnd : (s.rnd + 1#5).toNat ≤ 16 := by
      simp only [BitVec.toNat_add, BitVec.toNat_ofNat]; omega
    exact ⟨⟨hks, .inl ⟨hb, hd⟩, hchain⟩, ⟨hxor, henc, hother, hrnd, hblk⟩, h.ready, h.invalid, h.config, h.memory,
      h.derived, h.out⟩

/-- A block under ENCRYPT or DECRYPT keeps the invariant. -/
theorem StateInv.modeTick {s : State} (h : StateInv s) (hb : s.busy = true)
    (hd : decode s.cmdreg = .command .encrypt ∨ decode s.cmdreg = .command .decrypt) (d : Dir) :
    StateInv (s.modeTick d) := by
  obtain ⟨hks, hrnd, -⟩ := h.confined
  obtain ⟨hxor, henc, hother, hrnd16, -⟩ := h.bounded
  rcases s.modeTick_cases d with hs | ⟨hlt, c, hs⟩ <;> rw [hs]
  · exact h
  · have hblk : (s.blkIdx + 1#11).toNat ≤ s.params.msgMax / 8 := by
      simp only [BitVec.toNat_add, BitVec.toNat_ofNat]; omega
    exact ⟨⟨hks, hrnd, .inl ⟨hb, hd⟩⟩, ⟨hxor, henc, hother, hrnd16, hblk⟩, h.ready, h.invalid, h.config, h.memory,
      h.derived, h.out⟩

/-- Every internal step of a running command keeps the invariant. -/
theorem StateInv.tick {s : State} (h : StateInv s) (hb : s.busy = true) : StateInv s.tick := by
  unfold State.tick
  rcases hd : decode s.cmdreg with i | why
  · cases i with
    | nop => exact h
    | schedule => exact h.ksTick hb hd
    | encrypt => exact h.modeTick hb (.inl hd) .encrypt
    | decrypt => exact h.modeTick hb (.inr hd) .decrypt
    | encblk => exact h.coreTick hb (.inl hd) encRound
    | decblk => exact h.coreTick hb (.inr hd) decRound
    | clrerr => exact h
    | zeroize => exact h
  · exact h

/-! ## Host accesses -/

/-- A read leaves the invariant, which says nothing of the host's record or of the count of draws. -/
theorem StateInv.hostLoad {s : State} (h : StateInv s) (off : Offset) : StateInv (s.hostLoad off).2 := by
  rw [State.hostLoad_snd]
  exact h.unobserved

/-- The issue of a word keeps the invariant: the sequencer leaves KS_IDLE for a SCHEDULE only, and a SCHEDULE or ZEROIZE starts
with SCHED_VALID = 0 (R341). -/
theorem StateInv.issue {s : State} (h : StateInv s) (hb : s.busy = false) (v : Word) : StateInv (s.issue v) := by
  obtain ⟨hphase, hidx, hrnd, hblk⟩ := h.atRest_of_idle hb
  have hs := h.settled_of_idle hb
  have hphase' : (decode v = .command .schedule ∧ (s.issue v).ksPhase = .check) ∨ (s.issue v).ksPhase = .idle := by
    by_cases hd : decode v = .command .schedule
    · exact .inl ⟨hd, by simp [State.issue, hd]⟩
    · exact .inr (by simp [State.issue, hphase])
  have hvalid : (s.issue v).schedValid = true → s.schedValid = true := by
    simp only [State.issue]
    split <;> simp
  refine ⟨⟨hphase'.imp (fun hp => ⟨rfl, hp.1⟩) fun hp => ⟨hp, hidx⟩, .inr hrnd, .inr ⟨hblk, hs.chain⟩⟩, ?_, ?_, ?_,
    h.config, h.memory, fun hv => h.derived (hvalid hv), h.out⟩
  · refine ⟨fun _ => ?_, fun _ => ?_, fun _ _ => hidx, ?_, ?_⟩ <;> simp [hidx, hrnd, hblk]
  · rcases hphase' with ⟨-, hp⟩ | hp <;> simp [SequencerReady, hp]
  · rintro - (hd | hd) <;> rw [State.issue_cmdreg] at hd <;> simp [State.issue, hd]

/-- Every effect of a host write keeps the invariant. -/
theorem StateInv.hostWrite {s t : State} (h : StateInv s) {v : Word} (ht : HostWriteEffect v s t) : StateInv t := by
  cases ht with
  | ignored => exact h
  | doneCleared => exact h.unobserved
  | dropped => exact h.unobserved
  | issued hb => exact h.issue hb v
  | configured hb =>
    have hs := h.settled_of_idle hb
    have hmask : v &&& configMask &&& ~~~configMask = 0#32 := by
      rw [BitVec.and_assoc, BitVec.and_not_self]; exact BitVec.and_zero
    exact .of_atRest hb (h.atRest_of_idle hb) ⟨hs.chain, hmask, hs.memory, hs.derived, hs.out⟩
  | operand hb =>
    have hs := h.settled_of_idle hb
    exact .of_atRest hb (h.atRest_of_idle hb) ⟨hs.chain, hs.config, hs.memory, hs.derived, hs.out⟩
  | stored hb b i hne hfit =>
    exact .of_atRest hb (h.atRest_of_idle hb) ((h.settled_of_idle hb).bufWrite hne hfit)

/-- Every step of the host keeps the invariant and the parameters. -/
theorem StateInv.hostStep {s t : State} (h : StateInv s) (he : Machine.hostStep s = .next t) :
    StateInv t ∧ t.params = s.params := by
  rcases hostStep_cases s with ⟨-, hx⟩ | ⟨rest, -, hx⟩ | ⟨off, rest, -, -, hx⟩ | ⟨off, v, rest, -, ha, hx⟩ |
    ⟨width, off, op, rest, -, -, hx⟩
  · obtain rfl := Host.Outcome.next.inj (he.symm.trans hx)
    exact ⟨h, rfl⟩
  · obtain rfl := Host.Outcome.next.inj (he.symm.trans hx)
    split
    · exact ⟨h.hostLoad _, State.hostLoad_params s _⟩
    · exact ⟨(h.hostLoad _).unobserved, State.hostLoad_params s 0x008#16⟩
  · obtain rfl := Host.Outcome.next.inj (he.symm.trans hx)
    exact ⟨(h.hostLoad off).unobserved, State.hostLoad_params s off⟩
  · obtain rfl := Host.Outcome.next.inj (he.symm.trans hx)
    exact ⟨(h.hostWrite (s.hostWrite_effect v (beq_iff_eq.1 ha))).unobserved, State.hostWrite_params s off v⟩
  · cases he.symm.trans hx

/-! ## Reset -/

/-- A reset event leaves a state that meets the invariant, whatever the state before (R380). -/
theorem State.powerOnReset_inv (s : State) : StateInv s.powerOnReset :=
  .of_atRest rfl ⟨rfl, rfl, rfl, rfl⟩
    ⟨rfl, BitVec.zero_and, ⟨Memory.wf_nil, fun _ hc => (nomatch hc)⟩, fun hv => (nomatch hv),
      fun _ => ⟨Nat.zero_le _, .inl ⟨rfl, fun _ _ => rfl⟩⟩⟩

/-! ## The step -/

theorem State.cryptCommand_params (d : Dir) (s : State) : (s.cryptCommand d).params = s.params := by
  rcases s.cryptCommand_cases d with ⟨_, -, hs⟩ | ⟨_, _, -, -, hs⟩ | ⟨_, _, _, _, _, -, -, -, hs⟩ |
    ⟨_, _, _, _, _, -, -, -, hs⟩ <;> simp [hs, State.messageUndef]

theorem State.transformBlk_params (f : Schedule → Block → Block) (s : State) :
    (s.transformBlk f).params = s.params := by
  rcases s.transformBlk_cases f with ⟨-, hs⟩ | ⟨-, hs⟩ <;> simp [hs]

theorem execSchedule_params {s t : State} (he : execSchedule s = .next t) : t.params = s.params := by
  rcases execSchedule_cases s with ⟨-, hx⟩ | ⟨-, -, hx⟩ | ⟨k, -, -, hx⟩ <;>
    obtain rfl := Host.Outcome.next.inj (he.symm.trans hx)
  · simp [State.scheduleKeySize]
  · simp [State.scheduleUndef]
  · simp [State.scheduleKey]

/-- No command changes the parameters (R7). -/
theorem completionStep_params {s t : State} (he : completionStep s = .next t) : t.params = s.params := by
  unfold completionStep at he
  rcases hd : decode s.cmdreg with i | why <;> rw [hd] at he
  · cases i with
    | nop => cases he; rfl
    | schedule => exact execSchedule_params he
    | encrypt => cases he; exact s.cryptCommand_params .encrypt
    | decrypt => cases he; exact s.cryptCommand_params .decrypt
    | encblk => cases he; exact s.transformBlk_params encryptBlock
    | decblk => cases he; exact s.transformBlk_params decryptBlock
    | clrerr => cases he; rfl
    | zeroize => cases he; simp [State.zeroize]
  · cases he; rfl

/-- Settles O60, agent by agent: the host's accesses, the engine's internal and completion steps, and reset. -/
theorem stepKeepsInvariant : Obligations.StepKeepsInvariant := by
  intro s t hinv hstep
  have hu : StateInv s.nextTurn.2 := by
    rw [State.nextTurn_snd]
    exact hinv.unobserved
  have hparams : s.nextTurn.2.params = s.params := by rw [State.nextTurn_snd]
  have hbusy : s.nextTurn.2.busy = s.busy := by rw [State.nextTurn_snd]
  rcases step_next_cases hstep with ⟨-, he⟩ | ⟨-, rfl⟩ | ⟨-, -, rfl⟩ | ⟨-, -, he⟩ | ⟨-, rfl⟩
  · obtain ⟨ht, hp⟩ := hu.hostStep he
    exact ⟨ht, hp.trans hparams⟩
  · split
    · exact ⟨hu.tick (hbusy.trans ‹_›), (State.tick_params _).trans hparams⟩
    · exact ⟨hu, hparams⟩
  · exact ⟨hu, hparams⟩
  · exact ⟨hu.completionStep he, (completionStep_params he).trans hparams⟩
  · exact ⟨State.powerOnReset_inv _, hparams⟩

end Sys2Proof.Machine
end

section
/-! Host reads (R12, R92). -/

namespace Sys2Proof.Machine

/-- Settles O48: a host step that reads records the value read, and a draw also takes the next free value. -/
theorem readsHaveNoSideEffect : Obligations.ReadsHaveNoSideEffect := by
  intro s off rest hprog halign
  have hstep : hostStep s = .next { (s.hostLoad off).2 with program := rest } := by
    have hwf : HostOp.wf (.rd off) = true := by simp [HostOp.wf, Offset.aligned, halign]
    simp only [hostStep, hprog, hwf, if_true]
  refine ⟨fun v hv => ?_, fun hn => ?_⟩
  · rw [hstep, State.hostLoad, State.hostRead, hv]
  · rw [hstep, State.hostLoad, State.hostRead, hn]

end Sys2Proof.Machine
end

section
/-! FAULT_UNDEF (R38, R358): which commands set it, and which steps keep it. -/

namespace Sys2Proof.Machine

/-! ## SCHEDULE, by its key -/

theorem execSchedule_of_keyLength_bad {s : State} (h : s.keyLengthOk = false) :
    execSchedule s = .next s.scheduleKeySize := by
  simp [execSchedule, h]

theorem execSchedule_of_keyBytes_none {s : State} (h : s.keyLengthOk = true) (hk : s.keyBytes = none) :
    execSchedule s = .next s.scheduleUndef := by
  simp [execSchedule, h, hk]

theorem execSchedule_of_keyBytes_some {s : State} {k : List Byte} (h : s.keyLengthOk = true)
    (hk : s.keyBytes = some k) : execSchedule s = .next (s.scheduleKey k) := by
  simp [execSchedule, h, hk]

/-! ## The commands that consume an undef byte -/

/-- Command `i`, run in `s`, consumes an undef byte: the operand it is about to read has no value (R38, R151, R271). -/
inductive ConsumesUndef (s : State) : Instr → Prop where
  | schedule (hok : s.keyLengthOk = true) (hkey : s.keyBytes = none) : ConsumesUndef s .schedule
  | encrypt {m : Mode} {p : Pad} (hchecks : s.checks .encrypt = .ok (m, p)) (hinput : s.passInput m = none) :
      ConsumesUndef s .encrypt
  | decrypt {m : Mode} {p : Pad} (hchecks : s.checks .decrypt = .ok (m, p)) (hinput : s.passInput m = none) :
      ConsumesUndef s .decrypt

theorem State.cryptCommand_of_passInput_none {s : State} {d : Dir} {m : Mode} {p : Pad}
    (hchecks : s.checks d = .ok (m, p)) (hinput : s.passInput m = none) : s.cryptCommand d = s.messageUndef := by
  simp [State.cryptCommand, State.dataPass, hchecks, hinput]

theorem State.cryptCommand_marks {s : State} {d : Dir} {m : Mode} {p : Pad}
    (hchecks : s.checks d = .ok (m, p)) (hinput : s.passInput m = none) :
    (s.cryptCommand d).faultUndef = true ∧ (s.cryptCommand d).busy = false ∧ (s.cryptCommand d).done = true := by
  rw [State.cryptCommand_of_passInput_none hchecks hinput]
  exact ⟨rfl, rfl, rfl⟩

/-- ENCRYPT and DECRYPT keep FAULT_UNDEF, but where the checks pass and an operand has no value. -/
theorem State.cryptCommand_faultUndef (d : Dir) (s : State) :
    (s.cryptCommand d).faultUndef = s.faultUndef ∨
    ∃ m p, s.checks d = .ok (m, p) ∧ s.passInput m = none := by
  rcases s.cryptCommand_cases d with ⟨_, -, hs⟩ | ⟨m, p, hc, hi, -⟩ | ⟨_, _, _, _, _, -, -, -, hs⟩ |
    ⟨_, _, _, _, _, -, -, -, hs⟩
  · exact .inl (by simp [hs])
  · exact .inr ⟨m, p, hc, hi⟩
  · exact .inl (by simp [hs])
  · exact .inl (by simp [hs])

theorem State.transformBlk_faultUndef (f : Schedule → Block → Block) (s : State) :
    (s.transformBlk f).faultUndef = s.faultUndef := by
  rcases s.transformBlk_cases f with ⟨-, hs⟩ | ⟨-, hs⟩ <;> simp [hs]

/-- A command that consumes an undef byte sets FAULT_UNDEF and completes (log 11, log 12). -/
theorem ConsumesUndef.exec_marks {s : State} {i : Instr} (h : ConsumesUndef s i) :
    ∃ t, exec i s = .next t ∧ t.faultUndef = true ∧ t.busy = false ∧ t.done = true := by
  cases h with
  | schedule hok hkey => exact ⟨_, execSchedule_of_keyBytes_none hok hkey, rfl, rfl, rfl⟩
  | encrypt hchecks hinput => exact ⟨_, rfl, State.cryptCommand_marks hchecks hinput⟩
  | decrypt hchecks hinput => exact ⟨_, rfl, State.cryptCommand_marks hchecks hinput⟩

/-- Every command that consumes no undef byte keeps FAULT_UNDEF. -/
theorem exec_faultUndef {s t : State} {i : Instr} (he : exec i s = .next t) :
    t.faultUndef = s.faultUndef ∨ ConsumesUndef s i := by
  cases i with
  | nop => cases he; exact .inl rfl
  | schedule =>
    rcases execSchedule_cases s with ⟨-, hx⟩ | ⟨hok, hkey, -⟩ | ⟨k, -, -, hx⟩
    · obtain rfl := Host.Outcome.next.inj (hx.symm.trans he)
      exact .inl (by simp [State.scheduleKeySize])
    · exact .inr (.schedule hok hkey)
    · obtain rfl := Host.Outcome.next.inj (hx.symm.trans he)
      exact .inl (by simp [State.scheduleKey])
  | encrypt =>
    cases he
    exact (s.cryptCommand_faultUndef .encrypt).imp_right fun ⟨_, _, hc, hi⟩ => .encrypt hc hi
  | decrypt =>
    cases he
    exact (s.cryptCommand_faultUndef .decrypt).imp_right fun ⟨_, _, hc, hi⟩ => .decrypt hc hi
  | encblk => cases he; exact .inl (s.transformBlk_faultUndef encryptBlock)
  | decblk => cases he; exact .inl (s.transformBlk_faultUndef decryptBlock)
  | clrerr => cases he; exact .inl rfl
  | zeroize => cases he; exact .inl rfl

/-- Settles O41: an operand without a value is an undef byte in its buffer, and `ConsumesUndef` is where FAULT_UNDEF is set. -/
theorem undefConsumptionIsMarked : Obligations.UndefConsumptionIsMarked := by
  refine ⟨fun s hmin hmax hbyte => ?_, fun s i d m p hid hchecks hbyte => ?_, fun s t i he hclear hset => ?_⟩
  · exact (ConsumesUndef.schedule (State.keyLengthOk_iff.2 ⟨hmin, hmax⟩) (State.keyBytes_eq_none.2 hbyte)).exec_marks
  · have hinput := State.passInput_eq_none.2 hbyte
    rcases hid with ⟨rfl, rfl⟩ | ⟨rfl, rfl⟩
    · exact (ConsumesUndef.encrypt hchecks hinput).exec_marks
    · exact (ConsumesUndef.decrypt hchecks hinput).exec_marks
  · rcases exec_faultUndef he with hkept | hc
    · rw [hkept, hclear] at hset; cases hset
    cases hc with
    | schedule hok hkey =>
      obtain ⟨hmin, hmax⟩ := State.keyLengthOk_iff.1 hok
      exact .inl ⟨rfl, hmin, hmax, State.keyBytes_eq_none.1 hkey⟩
    | encrypt hchecks hinput =>
      exact .inr ⟨_, _, _, .inl ⟨rfl, rfl⟩, hchecks, State.passInput_eq_none.1 hinput⟩
    | decrypt hchecks hinput =>
      exact .inr ⟨_, _, _, .inr ⟨rfl, rfl⟩, hchecks, State.passInput_eq_none.1 hinput⟩

/-! ## The steps that keep FAULT_UNDEF -/

/-- No completion clears FAULT_UNDEF: it is kept, or set. -/
theorem completionStep_keeps_mark {s t : State} (he : completionStep s = .next t) (hf : s.faultUndef = true) :
    t.faultUndef = true := by
  unfold completionStep at he
  split at he
  · rcases exec_faultUndef he with hkept | hc
    · exact hkept.trans hf
    · obtain ⟨t', he', hmark, -⟩ := hc.exec_marks
      cases he.symm.trans he'
      exact hmark
  · cases he; exact hf

/-- No access of the host touches FAULT_UNDEF, which has no place in the window. -/
theorem hostStep_faultUndef {s t : State} (he : hostStep s = .next t) : t.faultUndef = s.faultUndef := by
  rcases hostStep_cases s with ⟨-, hx⟩ | ⟨rest, -, hx⟩ | ⟨off, rest, -, -, hx⟩ | ⟨off, v, rest, -, -, hx⟩ |
    ⟨width, off, op, rest, -, -, hx⟩ <;> cases hx.symm.trans he
  · rfl
  · split
    · exact State.hostLoad_faultUndef s _
    · exact State.hostLoad_faultUndef s 0x008#16
  · exact State.hostLoad_faultUndef s off
  · exact State.hostWrite_faultUndef s off v

/-- A reset turn ends in the state of R380. -/
theorem step_of_reset {s : State} (h : s.nextTurn.1 = .reset) : step s = .next s.nextTurn.2.powerOnReset := by
  simp only [step, h, takeTurn]

/-- No agent's step but reset clears FAULT_UNDEF. -/
theorem step_keeps_mark {s t : State} (hstep : step s = .next t) (hne : s.nextTurn.1 ≠ .reset)
    (hf : s.faultUndef = true) : t.faultUndef = true := by
  have hturn : s.nextTurn.2.faultUndef = true := by rw [State.nextTurn_snd]; exact hf
  rcases step_next_cases hstep with ⟨-, he⟩ | ⟨-, rfl⟩ | ⟨-, -, rfl⟩ | ⟨-, -, he⟩ | ⟨hr, -⟩
  · exact (hostStep_faultUndef he).trans hturn
  · split
    · exact (State.tick_faultUndef _).trans hturn
    · exact hturn
  · exact hturn
  · exact completionStep_keeps_mark he hturn
  · exact absurd hr hne

/-- Settles O42: every other agent keeps the mark, and reset leaves it clear. -/
theorem faultUndefIsSticky : Obligations.FaultUndefIsSticky := by
  refine fun s t hstep => ⟨step_keeps_mark hstep, fun hr => ?_⟩
  obtain rfl := Host.Outcome.next.inj (hstep.symm.trans (step_of_reset hr))
  rfl

end Sys2Proof.Machine
end

section
/-! What no host read shows: the bytes of KEY (R34), and the tables while SCHED_VALID = 0 (R33, R88); and that no command
reads such tables (R346). -/

namespace Sys2Proof.Machine

/-! ## Host reads -/

/-- Every buffer but KEY stands past KEY in the window (R81). -/
theorem Buf.not_inBuf_key (c : Params) {b : Buf} (hb : b ≠ .key) (i : Nat) : ¬ InBuf c .key (b.base + i) := by
  rintro ⟨-, hhi⟩
  cases b <;> simp [Buf.base, Buf.size, Config.keyMax] at hb hhi <;> omega

/-- A word of IV, IN or OUT does not depend on the bytes of KEY. -/
theorem State.bufWord_of_keyOnly {s : State} {m : Memory}
    (h : ∀ a, ¬ InBuf s.params .key a → Memory.read m a = Memory.read s.mem a) {b : Buf} (hb : b ≠ .key) (i : Nat) :
    ({ s with mem := m } : State).bufWord b i = s.bufWord b i := by
  refine congrArg _ (Memory.readRange_congr fun j _ => h _ ?_)
  rw [Nat.add_assoc]
  exact Buf.not_inBuf_key _ hb _

/-- Settles O55: a read that reaches memory reads IV, IN or OUT, and KEY reads 0. -/
theorem keyBytesUnobservable : Obligations.KeyBytesUnobservable := by
  intro s m h off
  have hword : ∀ b, b ≠ Buf.key → ∀ i, ({ s with mem := m } : State).bufWord b i = s.bufWord b i :=
    fun _ hb i => State.bufWord_of_keyOnly h hb i
  unfold State.busRead
  cases locate off with
  | iv j => simp only [hword .iv (by decide), State.whileIdle]
  | inwin j => simp only [hword .inp (by decide), State.whileIdle]
  | outwin j => simp only [hword .out (by decide), State.whileIdle]
  | _ => rfl

/-- While SCHED_VALID = 0 the readback windows show no table word (R88). -/
theorem State.readback_of_invalid {s : State} (h : s.schedValid = false) (v w : Word) : s.readback v = s.readback w := by
  simp [State.readback, h]

/-- While SCHED_VALID = 0 no host read depends on P and S. -/
theorem State.busRead_of_invalid {s : State} (h : s.schedValid = false) (x : Schedule) (off : Offset) :
    ({ s with sched := x } : State).busRead off = s.busRead off := by
  unfold State.busRead
  cases locate off with
  | pwin i => exact State.readback_of_invalid h _ _
  | swin t i => exact State.readback_of_invalid h _ _
  | _ => rfl

/-! ## Commands on tables that are not valid -/

/-- Without a valid schedule the checks of R346 fail, whatever the tables. -/
theorem State.checks_of_invalid {s : State} (h : s.schedValid = false) (d : Dir) : ∃ e, s.checks d = .error e := by
  rcases hc : s.checks d with e | ⟨m, p⟩
  · exact ⟨e, rfl⟩
  · obtain ⟨-, -, hv, -⟩ := State.checks_eq_ok.1 hc
    rw [h] at hv; cases hv

theorem State.cryptCommand_of_checks_error {s : State} {d : Dir} {e : ErrCode} (h : s.checks d = .error e) :
    s.cryptCommand d = s.commitError.complete e := by
  simp [State.cryptCommand, h]

/-- ENCRYPT and DECRYPT without a valid schedule neither read nor write the tables. -/
theorem State.cryptCommand_setSched {s : State} (h : s.schedValid = false) (d : Dir) (x : Schedule) :
    ({ s with sched := x } : State).cryptCommand d = { s.cryptCommand d with sched := x } := by
  obtain ⟨e, he⟩ := s.checks_of_invalid h d
  have hx : ({ s with sched := x } : State).checks d = .error e := he
  rw [State.cryptCommand_of_checks_error hx, State.cryptCommand_of_checks_error he]
  rfl

theorem State.transformBlk_of_invalid {s : State} (h : s.schedValid = false) (f : Schedule → Block → Block) :
    s.transformBlk f = s.complete .noSchedule := by
  simp [State.transformBlk, h]

/-- ENCBLK and DECBLK without a valid schedule neither read nor write the tables. -/
theorem State.transformBlk_setSched {s : State} (h : s.schedValid = false) (f : Schedule → Block → Block)
    (x : Schedule) : ({ s with sched := x } : State).transformBlk f = { s.transformBlk f with sched := x } := by
  have hx : ({ s with sched := x } : State).schedValid = false := h
  rw [State.transformBlk_of_invalid hx, State.transformBlk_of_invalid h]
  rfl

/-- SCHEDULE never reads the tables: on a refused key it leaves them, else it writes all of them. That it completes on an
undef key is the model's (log 11). -/
theorem execSchedule_setSched (s : State) (x : Schedule) : ∃ t, execSchedule s = .next t ∧
    (execSchedule { s with sched := x } = .next t ∨ execSchedule { s with sched := x } = .next { t with sched := x }) := by
  rcases execSchedule_cases s with ⟨hok, hs⟩ | ⟨hok, hkey, hs⟩ | ⟨k, hok, hkey, hs⟩
  · exact ⟨_, hs, .inr (execSchedule_of_keyLength_bad (s := { s with sched := x }) hok)⟩
  · exact ⟨_, hs, .inl (execSchedule_of_keyBytes_none (s := { s with sched := x }) hok hkey)⟩
  · exact ⟨_, hs, .inl (execSchedule_of_keyBytes_some (s := { s with sched := x }) hok hkey)⟩

/-- Settles O43: reads through the windows are gated by SCHED_VALID, and so is every command that would use the tables;
SCHEDULE and ZEROIZE write them without reading them. -/
theorem invalidTablesUnobservable : Obligations.InvalidTablesUnobservable := by
  intro s x hv
  refine ⟨State.busRead_of_invalid hv x, fun i => ?_⟩
  cases i with
  | nop => exact ⟨_, rfl, .inr rfl⟩
  | schedule => exact execSchedule_setSched s x
  | encrypt => exact ⟨_, rfl, .inr (congrArg _ (State.cryptCommand_setSched hv .encrypt x))⟩
  | decrypt => exact ⟨_, rfl, .inr (congrArg _ (State.cryptCommand_setSched hv .decrypt x))⟩
  | encblk => exact ⟨_, rfl, .inr (congrArg _ (State.transformBlk_setSched hv encryptBlock x))⟩
  | decblk => exact ⟨_, rfl, .inr (congrArg _ (State.transformBlk_setSched hv decryptBlock x))⟩
  | clrerr => exact ⟨_, rfl, .inr rfl⟩
  | zeroize => exact ⟨_, rfl, .inl rfl⟩

end Sys2Proof.Machine
end

section
/-! The interrupt output (R48) and reset (R58, R380). -/

namespace Sys2Proof.Machine

/-- A write of IRQ_STATUS: bit 0 clears DONE, and BUSY does not gate it (R47, R90). -/
theorem State.hostWrite_irqStatus (s : State) (v : Word) :
    s.hostWrite 0x020#16 v = if v.getLsbD 0 then { s with done := false } else s := by
  have hloc : locate 0x020#16 = .irqStatus := by decide
  simp only [State.hostWrite, hloc]

theorem State.irq_iff {s : State} : s.irq = true ↔ s.config.getLsbD 8 = true ∧ s.done = true :=
  Bool.and_eq_true_iff

/-- Settles O54. -/
theorem interruptOutputAndClear : Obligations.InterruptOutputAndClear := by
  refine fun s v => ⟨State.irq_iff, fun hset => ?_, fun hclear => ?_⟩
  · rw [State.hostWrite_irqStatus, if_pos hset]
  · rw [State.hostWrite_irqStatus, hclear]; rfl

/-- A reset event leaves an engine that has just been reset as it is. -/
theorem State.powerOnReset_resetWith (c : Params) : (State.resetWith c).powerOnReset = State.resetWith c := rfl

theorem State.powerOnReset_irq (s : State) : s.powerOnReset.irq = false := Bool.and_false _

/-- Settles O58: at power-on and after a reset event alike the state is one that `powerOnReset` leaves. -/
theorem resetValues : Obligations.ResetValues := by
  refine ⟨⟨Params.default, rfl, rfl, rfl, rfl⟩, fun s u hturn => ?_⟩
  have hstep : step s = .next u.powerOnReset := by
    have := step_of_reset (s := s) (by rw [hturn])
    rwa [hturn] at this
  refine ⟨_, hstep, rfl, fun r hr => ?_⟩
  obtain ⟨v, rfl⟩ : ∃ v : State, r = v.powerOnReset :=
    hr.elim (fun h => ⟨u, h⟩) fun h => ⟨State.reset, h.trans (State.powerOnReset_resetWith _).symm⟩
  exact ⟨fun _ => rfl, rfl, rfl, rfl, rfl, rfl, rfl, rfl, rfl, rfl, rfl, rfl, rfl, rfl, rfl, rfl, rfl, rfl, rfl, rfl,
    v.powerOnReset_irq⟩

/-- Settles O59: the state right after reset is one a reset event leaves. -/
theorem resetMeetsInvariant : Obligations.ResetMeetsInvariant := by
  have hinv : ∀ c : Params, StateInv (State.resetWith c) := fun c =>
    State.powerOnReset_resetWith c ▸ State.powerOnReset_inv (State.resetWith c)
  exact ⟨hinv Params.default, hinv⟩

end Sys2Proof.Machine
end

section
/-! The host window by place (R81, R84, R86 to R91): what a read or a write of each register and of each window word is,
whether or not a command runs. -/

namespace Sys2Proof.Machine

/-! ## The two gates of BUSY -/

theorem State.whileIdle_of_busy {s : State} (h : s.busy = true) (v : Option Word) : s.whileIdle v = none := if_pos h

theorem State.whileIdle_of_idle {s : State} (h : s.busy = false) (v : Option Word) : s.whileIdle v = v :=
  if_neg (by simp [h])

theorem State.whenIdle_of_busy {s : State} (h : s.busy = true) (s' : State) : s.whenIdle s' = { s with overrun := true } :=
  if_pos h

theorem State.whenIdle_of_idle {s : State} (h : s.busy = false) (s' : State) : s.whenIdle s' = s' := if_neg (by simp [h])

/-! ## Registers -/

section
variable (s : State) (v : Word)

theorem State.busRead_id : s.busRead 0x000#16 = some 0x424C4F57#32 := rfl
theorem State.busRead_cmd : s.busRead 0x004#16 = some 0#32 := rfl
theorem State.busRead_status : s.busRead 0x008#16 = some s.statusWord := rfl
theorem State.busRead_config : s.busRead 0x00C#16 = some (s.config &&& 0x0000010F#32) := rfl
theorem State.busRead_keylen : s.busRead 0x010#16 = some (BitVec.ofNat 32 s.keylen.toNat) := by
  rw [BitVec.ofNat_toNat]; rfl
theorem State.busRead_ivlen : s.busRead 0x014#16 = some (BitVec.ofNat 32 s.ivlen.toNat) := by
  rw [BitVec.ofNat_toNat]; rfl
theorem State.busRead_msglen : s.busRead 0x018#16 = some (BitVec.ofNat 32 s.msglen.toNat) := by
  rw [BitVec.ofNat_toNat]; rfl
theorem State.busRead_outlen : s.busRead 0x01C#16 = s.whileIdle (some (BitVec.ofNat 32 s.outlen.toNat)) := by
  rw [BitVec.ofNat_toNat]; rfl
theorem State.busRead_blkL : s.busRead 0x024#16 = s.whileIdle (some s.blkL) := rfl
theorem State.busRead_blkR : s.busRead 0x028#16 = s.whileIdle (some s.blkR) := rfl

theorem State.busRead_irqStatus : s.busRead 0x020#16 = some (if s.done then 1#32 else 0#32) := by
  have hread : s.busRead 0x020#16 = some ((bit s.done).setWidth 32) := rfl
  rw [hread]
  cases s.done <;> rfl

theorem State.hostWrite_config : s.hostWrite 0x00C#16 v = s.whenIdle { s with config := v &&& 0x0000010F#32 } := rfl
theorem State.hostWrite_keylen : s.hostWrite 0x010#16 v = s.whenIdle { s with keylen := v.extractLsb' 0 6 } := rfl
theorem State.hostWrite_ivlen : s.hostWrite 0x014#16 v = s.whenIdle { s with ivlen := v.extractLsb' 0 4 } := rfl
theorem State.hostWrite_msglen : s.hostWrite 0x018#16 v = s.whenIdle { s with msglen := v.extractLsb' 0 16 } := rfl
theorem State.hostWrite_blkL : s.hostWrite 0x024#16 v = s.whenIdle { s with blkL := v } := rfl
theorem State.hostWrite_blkR : s.hostWrite 0x028#16 v = s.whenIdle { s with blkR := v } := rfl

end

/-! ## Buffer words -/

/-- The place of word `j` of a buffer. -/
def Buf.wordLoc : Buf → Nat → Loc
  | .key => .key
  | .iv => .iv
  | .inp => .inwin
  | .out => .outwin

/-- The words of a buffer stand at its base in the window (R81, R84). -/
theorem locate_word {c : Params} {b : Buf} {j : Nat} (hj : 4 * j < b.size c) :
    locate (BitVec.ofNat 16 (b.base + 4 * j)) = b.wordLoc j := by
  have hmax := msgMax_le c
  cases b <;> simp only [Buf.size, Config.keyMax, Config.ivBytes] at hj
  case key => exact locate_key (by omega)
  case iv => exact locate_iv (by omega)
  case inp => exact locate_inwin (by omega)
  case out => exact locate_outwin (by omega)

/-- KEY reads 0 (R34, R84). -/
theorem State.busRead_key (s : State) {j : Nat} (hj : j < 14) :
    s.busRead (BitVec.ofNat 16 (0x0040 + 4 * j)) = some 0#32 := by
  simp only [State.busRead, locate_key hj]

/-- A word inside IV, IN or OUT reads its bytes while idle (R84, R89). -/
theorem State.busRead_word {s : State} {b : Buf} {j : Nat} (hb : b ≠ .key) (hj : 4 * j < b.size s.params) :
    s.busRead (BitVec.ofNat 16 (b.base + 4 * j)) = s.whileIdle (s.bufWord b (4 * j)) := by
  rw [State.busRead, locate_word hj]
  cases b with
  | key => exact absurd rfl hb
  | iv => rfl
  | inp => simp only [Buf.wordLoc, if_pos hj]
  | out => simp only [Buf.wordLoc, if_pos hj]

/-- A word of INWIN or OUTWIN past the end of its buffer reads 0 while idle (R87; while BUSY log 15). -/
theorem State.busRead_past {s : State} {b : Buf} {j : Nat} (hb : b = .inp ∨ b = .out) (hpast : b.size s.params ≤ 4 * j)
    (hj : j < 4096) : s.busRead (BitVec.ofNat 16 (b.base + 4 * j)) = s.whileIdle (some 0#32) := by
  have hnot : ¬ 4 * j < b.size s.params := by omega
  rcases hb with rfl | rfl
  · simp only [State.busRead, Buf.base, locate_inwin hj, if_neg hnot]
  · simp only [State.busRead, Buf.base, locate_outwin hj, if_neg hnot]

/-- A write of a word inside KEY, IV or IN stores its bytes while idle (R84, R90, R91). -/
theorem State.hostWrite_word {s : State} {b : Buf} {j : Nat} (hb : b ≠ .out) (hj : 4 * j < b.size s.params) (v : Word) :
    s.hostWrite (BitVec.ofNat 16 (b.base + 4 * j)) v = s.whenIdle (s.bufWrite b (4 * j) (wordBytes v)) := by
  rw [State.hostWrite, locate_word hj]
  cases b with
  | key => rfl
  | iv => rfl
  | inp => simp only [Buf.wordLoc, if_pos hj]
  | out => exact absurd rfl hb

/-- A write past the end of IN is ignored (R87; while BUSY log 15). -/
theorem State.hostWrite_past {s : State} {j : Nat} (hpast : Buf.size s.params .inp ≤ 4 * j) (hj : j < 4096) (v : Word) :
    s.hostWrite (BitVec.ofNat 16 (0x4000 + 4 * j)) v = s := by
  have hnot : ¬ 4 * j < Buf.size s.params .inp := by omega
  simp only [State.hostWrite, locate_inwin hj, if_neg hnot]

theorem State.hostWrite_outwin (s : State) {j : Nat} (hj : j < 4096) (v : Word) :
    s.hostWrite (BitVec.ofNat 16 (0x8000 + 4 * j)) v = s := by
  simp only [State.hostWrite, locate_outwin hj]

/-! ## The schedule readback windows (R88) -/

theorem State.busRead_pwin (s : State) {i : Nat} (hi : i < 18) :
    s.busRead (BitVec.ofNat 16 (0x0100 + 4 * i)) = s.readback (s.sched.pAt i) := by
  simp only [State.busRead, locate_pwin hi]

theorem State.hostWrite_pwin (s : State) {i : Nat} (hi : i < 18) (v : Word) :
    s.hostWrite (BitVec.ofNat 16 (0x0100 + 4 * i)) v = s := by
  simp only [State.hostWrite, locate_pwin hi]

/-- SWIN is one run of 1024 words, 256 a table (R81). -/
theorem swinOffset_eq (k j : Nat) : 0x1000 + 0x400 * k + 4 * j = 0x1000 + 4 * (256 * k + j) := by omega

theorem State.busRead_swin (s : State) {k j : Nat} (hk : k < 4) (hj : j < 256) :
    s.busRead (BitVec.ofNat 16 (0x1000 + 0x400 * k + 4 * j)) = s.readback (s.sched.sAt k j) := by
  have hloc : locate (BitVec.ofNat 16 (0x1000 + 4 * (256 * k + j))) = .swin k j := by
    rw [locate_swin (by omega), show (256 * k + j) / 256 = k by omega, show (256 * k + j) % 256 = j by omega]
  simp only [swinOffset_eq, State.busRead, hloc]

theorem State.hostWrite_swin (s : State) {n : Nat} (hn : n < 1024) (v : Word) :
    s.hostWrite (BitVec.ofNat 16 (0x1000 + 4 * n)) v = s := by
  simp only [State.hostWrite, locate_swin hn]

/-! ## Reserved offsets (R86) -/

theorem locate_reserved {off : Offset}
    (h : ¬ (off.toNat ≤ 0x028 ∨ (0x040 ≤ off.toNat ∧ off.toNat ≤ 0x074) ∨ (0x080 ≤ off.toNat ∧ off.toNat ≤ 0x084) ∨
      (0x100 ≤ off.toNat ∧ off.toNat ≤ 0x144) ∨ (0x1000 ≤ off.toNat ∧ off.toNat ≤ 0x1FFC) ∨
      (0x4000 ≤ off.toNat ∧ off.toNat ≤ 0x7FFC) ∨ (0x8000 ≤ off.toNat ∧ off.toNat ≤ 0xBFFC))) :
    locate off = .reserved := by
  unfold locate locateNat
  iterate 17 rw [if_neg (by omega)]

end Sys2Proof.Machine
end

section
/-! Host reads and writes of the registers and of the schedule readback windows (R81, R86, R88, R89, R91, R92). -/

namespace Sys2Proof.Machine

/-- Settles O44: each register's read, with the gate of BUSY open. -/
theorem registerReadsWhileIdle : Obligations.RegisterReadsWhileIdle := by
  intro s hb
  have hgate := State.whileIdle_of_idle hb
  refine ⟨s.busRead_id, s.busRead_cmd, ?_, s.busRead_config, s.busRead_keylen, s.busRead_ivlen, s.busRead_msglen,
    s.busRead_outlen.trans (hgate _), s.busRead_irqStatus, s.busRead_blkL.trans (hgate _),
    s.busRead_blkR.trans (hgate _)⟩
  rw [State.busRead_status, State.statusWord_eq_shifts, hb]
  exact congrArg some BitVec.or_zero

/-- Settles O49: each register's write, with the gate of BUSY open; the other places are read-only. -/
theorem registerWritesWhileIdle : Obligations.RegisterWritesWhileIdle := by
  intro s v hb
  have hgate := State.whenIdle_of_idle hb
  exact ⟨(s.hostWrite_config v).trans (hgate _), (s.hostWrite_keylen v).trans (hgate _),
    (s.hostWrite_ivlen v).trans (hgate _), (s.hostWrite_msglen v).trans (hgate _),
    (s.hostWrite_blkL v).trans (hgate _), (s.hostWrite_blkR v).trans (hgate _), rfl, rfl, rfl,
    fun _ hi => s.hostWrite_pwin hi v, fun _ hi => s.hostWrite_swin hi v, fun _ hi => s.hostWrite_outwin hi v⟩

/-- Settles O46: BUSY closes the gate on OUTLEN, BLK, IV, IN and OUT, and no other read passes through it. -/
theorem readsWhileBusy : Obligations.ReadsWhileBusy := by
  intro s hb
  have hgate := State.whileIdle_of_busy hb
  refine ⟨s.busRead_id, s.busRead_cmd, ?_, s.busRead_config, s.busRead_keylen, s.busRead_ivlen, s.busRead_msglen,
    s.busRead_irqStatus, s.busRead_outlen.trans (hgate _), s.busRead_blkL.trans (hgate _),
    s.busRead_blkR.trans (hgate _), fun _ hj => s.busRead_key hj, fun j hj => ?_, fun j hj => ?_, fun j hj => ?_⟩
  · rw [State.busRead_status, State.statusWord_eq_shifts, hb]
    rfl
  · have hiv : 4 * j < Buf.size s.params .iv := by simp only [Buf.size, Config.ivBytes]; omega
    exact (State.busRead_word (b := .iv) (by decide) hiv).trans (hgate _)
  · exact (State.busRead_word (b := .inp) (by decide) hj).trans (hgate _)
  · exact (State.busRead_word (b := .out) (by decide) hj).trans (hgate _)

/-- Settles O47: both windows read through `readback`, whose branches are the four cases of R88. -/
theorem scheduleReadback : Obligations.ScheduleReadback := by
  intro s i k j hi hk hj
  dsimp only
  rw [s.busRead_pwin hi, s.busRead_swin hk hj, swinOffset_eq]
  refine ⟨fun hr => ?_, fun hr hb => ?_, fun hr hb hv => ?_, fun hr hb hv => ?_,
    fun v => ⟨s.hostWrite_pwin hi v, s.hostWrite_swin (by omega) v⟩⟩
  · simp [State.readback, hr]
  · simp [State.readback, hr, hb]
  · simp [State.readback, hr, hb, hv]
  · simp [State.readback, hr, hb, hv]

/-- Settles O52: an offset outside the ranges of R81 leads to no register and no window. -/
theorem reservedOffsetsInert : Obligations.ReservedOffsetsInert := by
  intro s off v _ o hout
  have hloc : locate off = .reserved := locate_reserved hout
  exact ⟨by simp only [State.busRead, hloc], by simp only [State.hostWrite, hloc]⟩

end Sys2Proof.Machine
end

section
/-! Host reads and writes of the buffers (R34 to R38, R84, R87, R91, R92). -/

namespace Sys2Proof.Machine

/-- A word whose four bytes are defined is those bytes, the first in bits 31:24 (R84). -/
theorem State.bufWord_of_bytes {s : State} {b : Buf} {i : Nat} {b0 b1 b2 b3 : Byte} (h0 : s.bufRead b i = some b0)
    (h1 : s.bufRead b (i + 1) = some b1) (h2 : s.bufRead b (i + 2) = some b2) (h3 : s.bufRead b (i + 3) = some b3) :
    s.bufWord b i = some (b0 ++ b1 ++ b2 ++ b3) := by
  have hrange : Memory.readRange s.mem (b.base + i) 4 = some [b0, b1, b2, b3] := by
    refine Memory.readRange_eq_some.2 ⟨rfl, fun m hm => ?_⟩
    rw [Nat.add_assoc]
    interval_cases m
    · exact h0
    · exact h1
    · exact h2
    · exact h3
  rw [State.bufWord, hrange]
  rfl

/-- A word with an undef byte has no value (R38). -/
theorem State.bufWord_of_undef {s : State} {b : Buf} {i : Nat} (h : ∃ m, m < 4 ∧ s.bufRead b (i + m) = none) :
    s.bufWord b i = none := by
  obtain ⟨m, hm, hread⟩ := h
  have hrange : Memory.readRange s.mem (b.base + i) 4 = none :=
    Memory.readRange_eq_none.2 ⟨m, hm, by rw [Nat.add_assoc]; exact hread⟩
  rw [State.bufWord, hrange]
  rfl

/-- Settles O45. -/
theorem bufferReadsWhileIdle : Obligations.BufferReadsWhileIdle := by
  intro s j hb
  have hgate := State.whileIdle_of_idle hb
  refine ⟨fun hj => s.busRead_key hj, fun b hbuf hj => ?_, fun b hbuf hpast hj => ?_⟩
  · have hne : b ≠ .key := by rcases hbuf with rfl | rfl | rfl <;> decide
    rw [State.busRead_word hne hj, hgate]
    exact ⟨fun _ _ _ _ h0 h1 h2 h3 => State.bufWord_of_bytes h0 h1 h2 h3, State.bufWord_of_undef⟩
  · exact (State.busRead_past hbuf hpast hj).trans (hgate _)

/-- The bytes a store of a word leaves, bits 31:24 first (R84). -/
theorem State.bufRead_bufWrite_word (s : State) (b : Buf) (i : Nat) (v : Word) {m : Nat} (hm : m < 4) :
    (s.bufWrite b i (wordBytes v)).bufRead b (i + m) = some ((wordBytes v)[m]'hm) := by
  rw [State.bufRead, State.bufWrite_mem, ← Nat.add_assoc]
  exact Memory.read_write_inside hm

/-- A stored word reads back. -/
theorem State.bufWord_bufWrite (s : State) (b : Buf) (i : Nat) (v : Word) :
    (s.bufWrite b i (wordBytes v)).bufWord b i = some v := by
  have hbyte := fun m hm => s.bufRead_bufWrite_word b i v (m := m) hm
  exact (State.bufWord_of_bytes (hbyte 0 (by decide)) (hbyte 1 (by decide)) (hbyte 2 (by decide))
    (hbyte 3 (by decide))).trans (congrArg some (be32_extract v))

/-- Settles O50: the write is a store of the word's bytes, and nothing past the end of IN. -/
theorem bufferWritesWhileIdle : Obligations.BufferWritesWhileIdle := by
  intro s v j hb
  refine ⟨fun b hbuf hj => ?_, fun hpast hj => State.hostWrite_past hpast hj v⟩
  have hne : b ≠ .out := by rcases hbuf with rfl | rfl | rfl <;> decide
  have hbyte := fun m hm => s.bufRead_bufWrite_word b (4 * j) v (m := m) hm
  dsimp only
  rw [State.hostWrite_word hne hj, State.whenIdle_of_idle hb]
  refine ⟨hbyte 0 (by decide), hbyte 1 (by decide), hbyte 2 (by decide), hbyte 3 (by decide),
    fun a ha => Memory.read_write_outside ha, rfl, fun hkey => ?_⟩
  calc (s.bufWrite b (4 * j) (wordBytes v)).busRead (BitVec.ofNat 16 (b.base + 4 * j))
    _ = (s.bufWrite b (4 * j) (wordBytes v)).whileIdle _ := State.busRead_word hkey hj
    _ = (s.bufWrite b (4 * j) (wordBytes v)).bufWord b (4 * j) := State.whileIdle_of_idle hb _
    _ = some v := s.bufWord_bufWrite b (4 * j) v

end Sys2Proof.Machine
end

section
/-! A running command and the host: writes to its inputs are dropped (R90), and no step that leaves it running changes
them (R98, R342). -/

namespace Sys2Proof.Machine

/-! ## Dropped writes -/

/-- The offsets of a command's inputs, which R90 gates by BUSY. -/
def IsInputOffset (c : Params) (o : Nat) : Prop :=
  o = 0x004 ∨ o = 0x00C ∨ o = 0x010 ∨ o = 0x014 ∨ o = 0x018 ∨ o = 0x024 ∨ o = 0x028 ∨
    (0x040 ≤ o ∧ o ≤ 0x074) ∨ (0x080 ≤ o ∧ o ≤ 0x084) ∨ (0x4000 ≤ o ∧ o < 0x4000 + c.msgMax)

/-- While BUSY a write is dropped with OVERRUN, or ignored, or reaches IRQ_STATUS. -/
theorem State.hostWrite_of_busy {s : State} {off : Offset} (v : Word) (hb : s.busy = true) (ha : off.toNat % 4 = 0) :
    (IsInputOffset s.params off.toNat ∧ s.hostWrite off v = { s with overrun := true }) ∨
    (¬ IsInputOffset s.params off.toNat ∧ off.toNat ≠ 0x020 ∧ s.hostWrite off v = s) ∨
    (¬ IsInputOffset s.params off.toNat ∧ off.toNat = 0x020) := by
  have hmax := msgMax_le s.params
  have hdrop := State.whenIdle_of_busy hb
  unfold IsInputOffset
  refine locateNat_cases off.toNat ha (fun l => locate off = l → _) ?id ?cmd ?status ?config ?keylen ?ivlen ?msglen
    ?outlen ?irqStatus ?blkL ?blkR ?key ?iv ?pwin ?swin ?inwin ?outwin ?reserved rfl <;> intro ho hl <;>
    simp only [State.hostWrite, hl, hdrop]
  case cmd | config | keylen | ivlen | msglen | blkL | blkR | key | iv => exact .inl ⟨by omega, trivial⟩
  case irqStatus => exact .inr (.inr ⟨by omega, ho⟩)
  case inwin =>
    by_cases hin : 4 * ((off.toNat - 0x4000) / 4) < Buf.size s.params .inp
    · exact .inl ⟨by simp only [Buf.size] at hin; omega, if_pos hin⟩
    · exact .inr (.inl ⟨by simp only [Buf.size] at hin; omega, by omega, if_neg hin⟩)
  all_goals exact .inr (.inl ⟨by omega, by omega, trivial⟩)

/-- Settles O51. -/
theorem writesWhileBusyAreDropped : Obligations.WritesWhileBusyAreDropped := by
  intro s off v hb ha
  refine ⟨fun hin => ?_, fun hout hne => ?_, fun hirq => ?_⟩
  · rcases State.hostWrite_of_busy v hb ha with ⟨-, hs⟩ | ⟨hout, -⟩ | ⟨hout, -⟩
    · exact hs
    · exact absurd hin hout
    · exact absurd hin hout
  · rcases State.hostWrite_of_busy v hb ha with ⟨hin, -⟩ | ⟨-, -, hs⟩ | ⟨-, hirq⟩
    · exact absurd hin hout
    · exact hs
    · exact absurd hirq hne
  · obtain rfl : off = 0x020#16 := BitVec.eq_of_toNat_eq hirq
    rw [State.hostWrite_irqStatus]
    cases v.getLsbD 0 <;> simp

/-! ## Stable inputs -/

/-- A command's inputs, and what its completion will write of results and report, are the same in `s` and `t`. -/
structure KeepsInputs (s t : State) : Prop where
  cmdreg     : t.cmdreg = s.cmdreg
  config     : t.config = s.config
  keylen     : t.keylen = s.keylen
  ivlen      : t.ivlen = s.ivlen
  msglen     : t.msglen = s.msglen
  blkL       : t.blkL = s.blkL
  blkR       : t.blkR = s.blkR
  mem        : t.mem = s.mem
  params     : t.params = s.params
  schedValid : t.schedValid = s.schedValid
  outlen     : t.outlen = s.outlen
  errcode    : t.errcode = s.errcode
  lastOp     : t.lastOp = s.lastOp

theorem KeepsInputs.refl (s : State) : KeepsInputs s s := by constructor <;> rfl

theorem KeepsInputs.setProgram {s t : State} (h : KeepsInputs s t) (p : List HostOp) :
    KeepsInputs s { t with program := p } := { h with }

theorem State.hostLoad_keepsInputs (s : State) (off : Offset) : KeepsInputs s (s.hostLoad off).2 := by
  constructor <;> simp

/-- An internal step writes the tables, the datapath and the sequencing registers only (log 14). -/
theorem State.tick_keepsInputs (s : State) : KeepsInputs s s.tick := by constructor <;> simp

/-- While BUSY no accepted effect of a write is left (R90). -/
theorem HostWriteEffect.keepsInputs {v : Word} {s t : State} (h : HostWriteEffect v s t) (hb : s.busy = true) :
    KeepsInputs s t := by
  have hrunning : s.busy ≠ false := by simp [hb]
  cases h with
  | ignored => exact .refl s
  | doneCleared | dropped => constructor <;> rfl
  | issued idle | configured idle | operand idle | stored idle => exact absurd idle hrunning

/-- No access of the host changes the inputs of a running command. -/
theorem hostStep_keepsInputs {s t : State} (hb : s.busy = true) (he : hostStep s = .next t) : KeepsInputs s t := by
  rcases hostStep_cases s with ⟨-, hx⟩ | ⟨rest, -, hx⟩ | ⟨off, rest, -, -, hx⟩ | ⟨off, v, rest, -, ha, hx⟩ |
    ⟨width, off, op, rest, -, -, hx⟩ <;> cases hx.symm.trans he
  · exact .refl s
  · split
    · exact s.hostLoad_keepsInputs _
    · exact (s.hostLoad_keepsInputs _).setProgram rest
  · exact (s.hostLoad_keepsInputs off).setProgram rest
  · exact ((s.hostWrite_effect v (beq_iff_eq.1 ha)).keepsInputs hb).setProgram rest

theorem State.cryptCommand_busy (d : Dir) (s : State) : (s.cryptCommand d).busy = false := by
  rcases s.cryptCommand_cases d with ⟨_, -, hs⟩ | ⟨_, _, -, -, hs⟩ | ⟨_, _, _, _, _, -, -, -, hs⟩ |
    ⟨_, _, _, _, _, -, -, -, hs⟩ <;> rw [hs] <;> rfl

theorem State.transformBlk_busy (f : Schedule → Block → Block) (s : State) : (s.transformBlk f).busy = false := by
  rcases s.transformBlk_cases f with ⟨-, hs⟩ | ⟨-, hs⟩ <;> rw [hs] <;> rfl

/-- Every completion leaves the engine idle (R342). -/
theorem completionStep_busy {s t : State} (he : completionStep s = .next t) : t.busy = false := by
  unfold completionStep at he
  rcases hd : decode s.cmdreg with i | why <;> rw [hd] at he
  · cases i with
    | schedule =>
      rcases execSchedule_cases s with ⟨-, hx⟩ | ⟨-, -, hx⟩ | ⟨k, -, -, hx⟩ <;> cases hx.symm.trans he <;> rfl
    | encrypt => cases he; exact s.cryptCommand_busy .encrypt
    | decrypt => cases he; exact s.cryptCommand_busy .decrypt
    | encblk => cases he; exact s.transformBlk_busy encryptBlock
    | decblk => cases he; exact s.transformBlk_busy decryptBlock
    | nop | clrerr | zeroize => cases he; rfl
  · cases he; rfl

/-- Settles O8: the host and the internal steps keep the inputs, and the two other agents' steps end the command. -/
theorem inputsStableWhileRunning : Obligations.InputsStableWhileRunning := by
  intro s t hstep hb ht
  have hstable : KeepsInputs s.nextTurn.2 t := by
    have hturn : s.nextTurn.2.busy = true := by rw [State.nextTurn_snd]; exact hb
    rcases step_next_cases hstep with ⟨-, he⟩ | ⟨-, rfl⟩ | ⟨-, hidle, -⟩ | ⟨-, -, he⟩ | ⟨-, rfl⟩
    · exact hostStep_keepsInputs hturn he
    · rw [if_pos hb]
      exact State.tick_keepsInputs _
    · exact absurd (hb.symm.trans hidle) (by decide)
    · exact absurd (ht.symm.trans (completionStep_busy he)) (by decide)
    · cases ht
  rw [State.nextTurn_snd] at hstable
  exact ⟨hstable.cmdreg, hstable.config, hstable.keylen, hstable.ivlen, hstable.msglen, hstable.blkL, hstable.blkR,
    hstable.mem, hstable.params, hstable.schedValid, hstable.outlen, hstable.errcode, hstable.lastOp⟩

end Sys2Proof.Machine
end

section
/-! The host's step by the operation it takes (R14, R85, R93, R127), and a whole buffer transfer (R84, R127). -/

namespace Sys2Proof.Machine

/-! ## One operation -/

/-- The accesses R85 defines. -/
theorem wf_access_iff {width : Nat} {off : Offset} {op : BusOp} :
    HostOp.wf (.access width off op) = true ↔ width = 32 ∧ off.toNat % 4 = 0 := by
  simp [HostOp.wf, Offset.aligned]

theorem hostStep_of_undefined {s : State} {width : Nat} {off : Offset} {op : BusOp} {rest : List HostOp}
    (hprog : s.program = .access width off op :: rest) (h : width ≠ 32 ∨ off.toNat % 4 ≠ 0) :
    hostStep s = .refused (.undefinedAccess width off) := by
  have hwf : ¬ HostOp.wf (.access width off op) = true := by rw [wf_access_iff]; omega
  simp only [hostStep, hprog, if_neg hwf]

theorem hostStep_of_write {s : State} {off : Offset} {v : Word} {rest : List HostOp}
    (hprog : s.program = HostOp.wr off v :: rest) (ha : off.toNat % 4 = 0) :
    hostStep s = .next { s.hostWrite off v with program := rest } := by
  have hwf : HostOp.wf (.wr off v) = true := wf_access_iff.2 ⟨rfl, ha⟩
  simp only [hostStep, hprog, if_pos hwf]

theorem hostStep_of_read {s : State} {off : Offset} {rest : List HostOp}
    (hprog : s.program = HostOp.rd off :: rest) (ha : off.toNat % 4 = 0) :
    hostStep s = .next { (s.hostLoad off).2 with program := rest } := by
  have hwf : HostOp.wf (.rd off) = true := wf_access_iff.2 ⟨rfl, ha⟩
  simp only [hostStep, hprog, if_pos hwf]

/-- Bit 0 of STATUS is BUSY (R41). -/
theorem State.statusWord_bit0 (s : State) : s.statusWord.getLsbD 0 = s.busy := by
  rw [State.statusWord, BitVec.getLsbD_append]
  simp [bit]

/-- One poll of a `wait`: STATUS is read, and the `wait` is over when BUSY is 0 (R127). -/
theorem hostStep_of_wait {s : State} {rest : List HostOp} (hprog : s.program = .wait :: rest) :
    hostStep s = .next { s with
      program := if s.busy then s.program else rest, reads := (0x008#16, s.statusWord) :: s.reads } := by
  have hload : s.hostLoad 0x008#16 = (s.statusWord, { s with reads := (0x008#16, s.statusWord) :: s.reads }) := rfl
  simp only [hostStep, hprog, hload, State.statusWord_bit0]
  cases s.busy <;> simp [← hprog]

theorem step_of_hostTurn {s u : State} (h : s.nextTurn = (.host, u)) : step s = hostStep u := by
  rw [step, h]; rfl

/-- Settles O53. -/
theorem undefinedAccessesRefused : Obligations.UndefinedAccessesRefused := by
  refine ⟨fun _ _ => step_of_hostTurn, fun s width off op rest hprog => ⟨hostStep_of_undefined hprog, ?_⟩,
    fun _ _ => hostStep_of_wait⟩
  rintro rfl ha
  refine ⟨?_, ?_⟩
  · rintro v rfl; exact hostStep_of_write hprog ha
  · rintro rfl; exact ⟨_, hostStep_of_read hprog ha, rfl⟩

/-! ## A transfer into IN -/

/-- The write of word `j` of a `wrbuf` to IN (R127). -/
def wrbufWord (bytes : List Byte) (j : Nat) : HostOp := .wr (wordOffset 0x4000#16 j) (wordAt bytes (4 * j))

theorem expandPseudo_wrbuf_inp (bytes : List Byte) :
    expandPseudo (.wrbuf 0x4000#16 bytes) = (List.range' 0 (wordCount bytes.length)).map (wrbufWord bytes) := by
  rw [← List.range_eq_range']; rfl

/-- With no turns listed an idle engine lets the host store the next word of the transfer (log 4). -/
theorem step_of_wrbufWord {s : State} {bytes : List Byte} {j : Nat} {rest : List HostOp} (hb : s.busy = false)
    (hturns : s.turns = []) (hprog : s.program = wrbufWord bytes j :: rest) (hj : 4 * j < s.params.msgMax) :
    step s = .next { s.bufWrite .inp (4 * j) (wordBytes (wordAt bytes (4 * j))) with program := rest } := by
  have hmax := msgMax_le s.params
  have hturn : s.nextTurn = (.host, s) := by rw [State.nextTurn_nil hturns, State.defaultTurn, hb]; rfl
  have haligned : (wordOffset 0x4000#16 j).toNat % 4 = 0 := by
    have hoff : (wordOffset 0x4000#16 j).toNat = 0x4000 + 4 * j := offset_toNat (base := 0x4000) (by omega)
    omega
  have hstore : s.hostWrite (wordOffset 0x4000#16 j) (wordAt bytes (4 * j)) =
      s.bufWrite .inp (4 * j) (wordBytes (wordAt bytes (4 * j))) :=
    (State.hostWrite_word (b := .inp) (by decide) hj _).trans (State.whenIdle_of_idle hb _)
  rw [step_of_hostTurn hturn, hostStep_of_write hprog haligned, hstore]

/-- The stored word holds the message's bytes, and 0x00 past its end. -/
theorem State.bufRead_store_wordAt (s : State) (b : Buf) (bytes : List Byte) (i : Nat) {m : Nat} (hm : m < 4) :
    (s.bufWrite b i (wordBytes (wordAt bytes i))).bufRead b (i + m) = some (bytes.getD (i + m) 0#8) := by
  have hword : wordBytes (wordAt bytes i) =
      [byteAt bytes i, byteAt bytes (i + 1), byteAt bytes (i + 2), byteAt bytes (i + 3)] := wordBytes_be32 _ _ _ _
  rw [State.bufRead_bufWrite_word s b i _ hm]
  simp only [hword]
  interval_cases m <;> rfl

/-- `n` words of a transfer from word `j` on take `n` steps and fill their bytes of IN, leaving every other byte. -/
theorem run_wrbufWords (bytes : List Byte) (n j : Nat) (s : State) (hb : s.busy = false) (hturns : s.turns = [])
    (hfit : 4 * (j + n) ≤ s.params.msgMax) (hprog : s.program = (List.range' j n).map (wrbufWord bytes)) :
    ∃ t : State, Host.Core.run Sys2Proof.core n s = .next t ∧ t.program = [] ∧
      (∀ i, 4 * j ≤ i → i < 4 * (j + n) → t.bufRead .inp i = some (bytes.getD i 0#8)) ∧
      (∀ a, a < 0x4000 + 4 * j ∨ 0x4000 + 4 * (j + n) ≤ a → Memory.read t.mem a = Memory.read s.mem a) := by
  induction n generalizing j s with
  | zero => exact ⟨s, rfl, hprog, fun i hlo hhi => by omega, fun _ _ => rfl⟩
  | succ n ih =>
    rw [List.range'_succ, List.map_cons] at hprog
    have hstep := step_of_wrbufWord hb hturns hprog (by omega)
    obtain ⟨t, hrun, hdone, hfill, hframe⟩ := ih (j + 1)
      { s.bufWrite .inp (4 * j) (wordBytes (wordAt bytes (4 * j))) with
        program := (List.range' (j + 1) n).map (wrbufWord bytes) }
      hb hturns (by simp only [State.bufWrite_params]; omega) rfl
    refine ⟨t, (run_succ_of_step n hstep).trans hrun, hdone, fun i hlo hhi => ?_, fun a ha => ?_⟩
    · by_cases hfirst : i < 4 * (j + 1)
      · obtain ⟨m, rfl⟩ := Nat.exists_eq_add_of_le hlo
        exact (hframe _ (.inl (by simp only [Buf.base]; omega))).trans
          (s.bufRead_store_wordAt .inp bytes (4 * j) (by omega))
      · exact hfill i (by omega) (by omega)
    · exact (hframe a (by omega)).trans (Memory.read_write_outside
        (by simp only [Buf.base, wordBytes, List.length_cons, List.length_nil]; omega))

/-- Settles O56: the words of the expansion, from word 0 on. -/
theorem wrbufFillsIn : Obligations.WrbufFillsIn := by
  intro s bytes hb hturns hlen hprog
  have hfit : 4 * (0 + wordCount bytes.length) ≤ s.params.msgMax := by
    have hmax : s.params.msgMax % 8 = 0 := by simp [Params.msgMax]
    simp only [wordCount]
    omega
  rw [expandPseudo_wrbuf_inp] at hprog
  obtain ⟨t, hrun, hdone, hfill, hframe⟩ := run_wrbufWords bytes _ 0 s hb hturns hfit hprog
  rw [Nat.zero_add] at hfill hframe
  exact ⟨t, hrun, hdone, fun i hi => hfill i (Nat.zero_le _) hi, hframe⟩

end Sys2Proof.Machine
end

section
/-! Decoding and encoding of command words (R120 to R125). -/

namespace Sys2Proof.Machine

/-! ## The two fields -/

/-- OPC is the low byte of the word, and RSV is what stands above it (R120). -/
theorem opcField_toNat (v : Word) : (opcField v).toNat = v.toNat % 256 := by
  rw [opcField, BitVec.extractLsb'_toNat, Nat.shiftRight_zero]

theorem rsvField_toNat (v : Word) : (rsvField v).toNat = v.toNat / 256 := by
  rw [rsvField, BitVec.extractLsb'_toNat, Nat.shiftRight_eq_div_pow]
  exact Nat.mod_eq_of_lt (by omega)

theorem encode_toNat (i : Instr) : (encode i).toNat = (opcode i).toNat := by cases i <;> rfl

/-- A word is the encoding of `i` when RSV is 0 and OPC is the opcode of `i`. -/
theorem eq_encode_iff {v : Word} {i : Instr} : v = encode i ↔ rsvField v = 0#24 ∧ opcField v = opcode i := by
  rw [← BitVec.toNat_inj, ← BitVec.toNat_inj, ← BitVec.toNat_inj, encode_toNat, rsvField_toNat, opcField_toNat,
    BitVec.toNat_zero]
  omega

/-! ## The opcode map (R123) -/

/-- Each command is the one its opcode stands for. -/
theorem decodeOpc_opcode (i : Instr) : decodeOpc (opcode i) = some i := by cases i <;> rfl

theorem decodeOpc_eq_some_iff {b : Byte} {i : Instr} : decodeOpc b = some i ↔ b = opcode i := by
  constructor
  · intro h
    unfold decodeOpc at h
    split_ifs at h <;> cases h <;> assumption
  · rintro rfl
    exact decodeOpc_opcode i

/-- The opcodes are the bytes below 8. -/
theorem exists_opcode_iff {b : Byte} : (∃ i, b = opcode i) ↔ b.toNat < 8 := by
  constructor
  · rintro ⟨i, rfl⟩
    cases i <;> decide
  · intro hlt
    interval_cases h : b.toNat
    · exact ⟨.nop, BitVec.eq_of_toNat_eq h⟩
    · exact ⟨.schedule, BitVec.eq_of_toNat_eq h⟩
    · exact ⟨.encrypt, BitVec.eq_of_toNat_eq h⟩
    · exact ⟨.decrypt, BitVec.eq_of_toNat_eq h⟩
    · exact ⟨.encblk, BitVec.eq_of_toNat_eq h⟩
    · exact ⟨.decblk, BitVec.eq_of_toNat_eq h⟩
    · exact ⟨.clrerr, BitVec.eq_of_toNat_eq h⟩
    · exact ⟨.zeroize, BitVec.eq_of_toNat_eq h⟩

theorem decodeOpc_eq_none_iff {b : Byte} : decodeOpc b = none ↔ 8 ≤ b.toNat := by
  rw [Option.eq_none_iff_forall_ne_some, ← not_lt, ← exists_opcode_iff, not_exists]
  exact forall_congr' fun i => not_congr decodeOpc_eq_some_iff

/-! ## Decoding (R124, R125) -/

theorem decode_eq_command_iff {v : Word} {i : Instr} : decode v = .command i ↔ v = encode i := by
  rw [eq_encode_iff, ← decodeOpc_eq_some_iff]
  unfold decode
  by_cases hrsv : rsvField v = 0#24
  · rcases h : decodeOpc (opcField v) with _ | j <;> simp [hrsv]
  · simp [hrsv]

theorem decode_encode (i : Instr) : decode (encode i) = .command i := decode_eq_command_iff.2 rfl

theorem decode_illegal_iff {v : Word} :
    (∃ why, decode v = .illegal why) ↔ rsvField v ≠ 0#24 ∨ decodeOpc (opcField v) = none := by
  unfold decode
  by_cases hrsv : rsvField v = 0#24
  · rcases h : decodeOpc (opcField v) with _ | j <;> simp [hrsv]
  · simp [hrsv]

/-- Settles O2: `decode` finds the one command whose opcode is the word, and ILLEGAL is read off the word's two fields. -/
theorem decodeAgreesWithEncode : Obligations.DecodeAgreesWithEncode := by
  refine ⟨fun _ _ => decode_eq_command_iff, fun v => ?_, by decide⟩
  rw [decode_illegal_iff, decodeOpc_eq_none_iff, opcField_toNat, ne_eq, ← BitVec.toNat_inj, rsvField_toNat,
    BitVec.toNat_zero]

/-- Settles O1: the legal words are the encodings, and the others show an unassigned OPC or a nonzero RSV. -/
theorem commandWordsDecode : Obligations.CommandWordsDecode :=
  ⟨decode_encode .nop, decode_encode .schedule, decode_encode .encrypt, decode_encode .decrypt, decode_encode .encblk,
    decode_encode .decblk, decode_encode .clrerr, decode_encode .zeroize, by decide, by decide, by decide, by decide⟩

end Sys2Proof.Machine
end

section
/-! What the commands leave unchanged: the frame of SCHEDULE, of the block commands and of the message commands, and which
command may write the tables and each buffer (R122, R31 to R37, R41). -/

namespace Sys2Proof.Machine

/-! ## Writes inside one buffer -/

theorem State.bufWrite_keepsOutside (s : State) {b : Buf} {i : Nat} {bs : List Byte}
    (hfit : i + bs.length ≤ b.size s.params) : KeepsMemoryOutside b s (s.bufWrite b i bs) := by
  intro a ha
  refine Memory.read_write_outside ?_
  by_contra hin
  exact ha ⟨by omega, by omega⟩

theorem State.bufClear_keepsOutside (s : State) (b : Buf) : KeepsMemoryOutside b s (s.bufClear b) :=
  s.bufWrite_keepsOutside (by simp)

theorem State.bufUndef_keepsOutside (s : State) (b : Buf) : KeepsMemoryOutside b s (s.bufUndef b) := by
  intro a ha
  rw [State.bufUndef_mem, Memory.read_erase]
  exact if_neg ha

/-- A commit of a result that fits writes OUT alone (R272). -/
theorem State.commit_keepsOutside (s : State) {r : List Byte} (hr : r.length ≤ Buf.size s.params .out) :
    KeepsMemoryOutside .out s (s.commit r) :=
  s.bufWrite_keepsOutside (by rw [committed_length hr, Nat.zero_add])

theorem State.commitError_keepsOutside (s : State) : KeepsMemoryOutside .out s s.commitError :=
  s.bufClear_keepsOutside .out

/-! ## SCHEDULE -/

theorem execSchedule_keepsSettings {s t : State} (he : execSchedule s = .next t) : KeepsSettings s t := by
  rcases execSchedule_cases s with ⟨-, hx⟩ | ⟨-, -, hx⟩ | ⟨k, -, -, hx⟩ <;> cases hx.symm.trans he
  · simp [KeepsSettings, State.scheduleKeySize]
  · simp [KeepsSettings, State.scheduleUndef]
  · simp [KeepsSettings, State.scheduleKey]

/-- SCHEDULE has no part in BLK, OUTLEN, OVERRUN and CHAIN. -/
theorem execSchedule_keepsData {s t : State} (he : execSchedule s = .next t) :
    KeepsBlk s t ∧ t.outlen = s.outlen ∧ t.overrun = s.overrun ∧ t.chain = s.chain := by
  rcases execSchedule_cases s with ⟨-, hx⟩ | ⟨-, -, hx⟩ | ⟨k, -, -, hx⟩ <;> cases hx.symm.trans he
  · simp [KeepsBlk, State.scheduleKeySize]
  · simp [KeepsBlk, State.scheduleUndef]
  · simp [KeepsBlk, State.scheduleKey]

/-- SCHEDULE zeroizes KEY or leaves it undef, and writes no other byte (R158, log 11). -/
theorem execSchedule_keepsOutside {s t : State} (he : execSchedule s = .next t) : KeepsMemoryOutside .key s t := by
  rcases execSchedule_cases s with ⟨-, hx⟩ | ⟨-, -, hx⟩ | ⟨k, -, -, hx⟩ <;> cases hx.symm.trans he
  · exact s.bufClear_keepsOutside .key
  · exact s.spendDatapath.bufUndef_keepsOutside .key
  · exact s.spendDatapath.bufClear_keepsOutside .key

/-- Settles O19. -/
theorem scheduleFrame : Obligations.ScheduleFrame := by
  intro s t he
  obtain ⟨hblk, houtlen, hoverrun, hchain⟩ := execSchedule_keepsData he
  exact ⟨execSchedule_keepsSettings he, hblk, houtlen, hoverrun, hchain, execSchedule_keepsOutside he⟩

/-! ## ENCBLK and DECBLK -/

section
variable (f : Schedule → Block → Block) (s : State)

theorem State.transformBlk_keepsSettings : KeepsSettings s (s.transformBlk f) := by
  rcases s.transformBlk_cases f with ⟨-, hs⟩ | ⟨-, hs⟩ <;> simp [hs, KeepsSettings]

theorem State.transformBlk_keepsSchedule : KeepsSchedule s (s.transformBlk f) := by
  rcases s.transformBlk_cases f with ⟨-, hs⟩ | ⟨-, hs⟩ <;> simp [hs, KeepsSchedule]

theorem State.transformBlk_keepsMemory : KeepsMemory s (s.transformBlk f) := by
  rcases s.transformBlk_cases f with ⟨-, hs⟩ | ⟨-, hs⟩ <;> simp [hs, KeepsMemory]

/-- The block commands have no part in OUTLEN, OVERRUN and CHAIN. -/
theorem State.transformBlk_keepsData : (s.transformBlk f).outlen = s.outlen ∧
    (s.transformBlk f).overrun = s.overrun ∧ (s.transformBlk f).chain = s.chain := by
  rcases s.transformBlk_cases f with ⟨-, hs⟩ | ⟨-, hs⟩ <;> simp [hs]

end

/-- ENCBLK and DECBLK are `transformBlk` of the two directions. -/
theorem exec_blockCommand {i : Instr} {s t : State} (hi : i = .encblk ∨ i = .decblk) (he : exec i s = .next t) :
    ∃ f, t = s.transformBlk f := by
  rcases hi with rfl | rfl <;> cases he
  · exact ⟨encryptBlock, rfl⟩
  · exact ⟨decryptBlock, rfl⟩

/-- Settles O27. -/
theorem blockCommandFrame : Obligations.BlockCommandFrame := by
  intro i s t hi he
  obtain ⟨f, rfl⟩ := exec_blockCommand hi he
  obtain ⟨houtlen, hoverrun, hchain⟩ := s.transformBlk_keepsData f
  exact ⟨s.transformBlk_keepsSettings f, s.transformBlk_keepsSchedule f, s.transformBlk_keepsMemory f, houtlen, hoverrun,
    hchain, s.transformBlk_faultUndef f⟩

/-! ## ENCRYPT and DECRYPT -/

section
variable (d : Dir) (s : State)

theorem State.cryptCommand_keepsSettings : KeepsSettings s (s.cryptCommand d) := by
  rcases s.cryptCommand_cases d with ⟨_, -, hs⟩ | ⟨_, _, -, -, hs⟩ | ⟨_, _, _, _, _, -, -, -, hs⟩ |
    ⟨_, _, _, _, _, -, -, -, hs⟩ <;> simp [hs, KeepsSettings, State.messageUndef]

theorem State.cryptCommand_keepsSchedule : KeepsSchedule s (s.cryptCommand d) := by
  rcases s.cryptCommand_cases d with ⟨_, -, hs⟩ | ⟨_, _, -, -, hs⟩ | ⟨_, _, _, _, _, -, -, -, hs⟩ |
    ⟨_, _, _, _, _, -, -, -, hs⟩ <;> simp [hs, KeepsSchedule, State.messageUndef]

/-- The message commands have no part in BLK and OVERRUN. -/
theorem State.cryptCommand_keepsData : KeepsBlk s (s.cryptCommand d) ∧ (s.cryptCommand d).overrun = s.overrun := by
  rcases s.cryptCommand_cases d with ⟨_, -, hs⟩ | ⟨_, _, -, -, hs⟩ | ⟨_, _, _, _, _, -, -, -, hs⟩ |
    ⟨_, _, _, _, _, -, -, -, hs⟩ <;> simp [hs, KeepsBlk, State.messageUndef]

/-- Every commit stays inside OUT: a result of the data pass fits it (R272, R347). -/
theorem State.cryptCommand_keepsOutside : KeepsMemoryOutside .out s (s.cryptCommand d) := by
  rcases s.cryptCommand_cases d with ⟨_, -, hs⟩ | ⟨_, _, -, -, hs⟩ | ⟨_, _, _, _, _, hc, hi, hr, hs⟩ |
    ⟨_, _, _, _, _, -, -, -, hs⟩ <;> rw [hs]
  · exact s.commitError_keepsOutside
  · exact s.spendDatapath.bufUndef_keepsOutside .out
  · exact s.spendDatapath.commit_keepsOutside (State.cryptMessage_fits_out hc hi hr)
  · exact s.spendDatapath.commitError_keepsOutside

end

/-- ENCRYPT and DECRYPT are `cryptCommand` of the two directions. -/
theorem exec_messageCommand {i : Instr} {s t : State} (hi : i = .encrypt ∨ i = .decrypt) (he : exec i s = .next t) :
    ∃ d, t = s.cryptCommand d := by
  rcases hi with rfl | rfl <;> cases he
  · exact ⟨.encrypt, rfl⟩
  · exact ⟨.decrypt, rfl⟩

/-- Settles O37. -/
theorem messageCommandFrame : Obligations.MessageCommandFrame := by
  intro i s t hi he
  obtain ⟨d, rfl⟩ := exec_messageCommand hi he
  obtain ⟨hblk, hoverrun⟩ := s.cryptCommand_keepsData d
  exact ⟨s.cryptCommand_keepsSettings d, s.cryptCommand_keepsSchedule d, hblk, hoverrun, s.cryptCommand_keepsOutside d⟩

/-! ## The writers of the tables and of each buffer -/

/-- The commands that may write a buffer (R34 to R37). -/
inductive MayWrite : Instr → Buf → Prop where
  | zeroize (b : Buf) : MayWrite .zeroize b
  | schedule : MayWrite .schedule .key
  | encrypt : MayWrite .encrypt .out
  | decrypt : MayWrite .decrypt .out

/-- A command leaves every byte of a buffer it may not write. -/
theorem exec_read_of_not_mayWrite {i : Instr} {s t : State} (he : exec i s = .next t) {b : Buf} (hw : ¬ MayWrite i b)
    {a : Nat} (ha : InBuf s.params b a) : Memory.read t.mem a = Memory.read s.mem a := by
  cases i with
  | nop | clrerr => cases he; rfl
  | schedule => exact execSchedule_keepsOutside he a fun hkey => hw (InBuf.unique _ hkey ha ▸ .schedule)
  | encrypt => cases he; exact s.cryptCommand_keepsOutside .encrypt a fun hout => hw (InBuf.unique _ hout ha ▸ .encrypt)
  | decrypt => cases he; exact s.cryptCommand_keepsOutside .decrypt a fun hout => hw (InBuf.unique _ hout ha ▸ .decrypt)
  | encblk => cases he; exact s.transformBlk_keepsMemory encryptBlock a
  | decblk => cases he; exact s.transformBlk_keepsMemory decryptBlock a
  | zeroize => exact absurd (.zeroize b) hw

/-- Only SCHEDULE and ZEROIZE write P, S and SCHED_VALID (R31 to R33). -/
theorem exec_keepsSchedule {i : Instr} {s t : State} (he : exec i s = .next t) (hsched : i ≠ .schedule)
    (hzero : i ≠ .zeroize) : KeepsSchedule s t := by
  cases i with
  | nop | clrerr => cases he; exact ⟨rfl, rfl⟩
  | schedule => exact absurd rfl hsched
  | encrypt => cases he; exact s.cryptCommand_keepsSchedule .encrypt
  | decrypt => cases he; exact s.cryptCommand_keepsSchedule .decrypt
  | encblk => cases he; exact s.transformBlk_keepsSchedule encryptBlock
  | decblk => cases he; exact s.transformBlk_keepsSchedule decryptBlock
  | zeroize => exact absurd rfl hzero

/-- Settles O57: the excluded commands are those that `MayWrite` lists for the buffer. -/
theorem tableAndBufferWriters : Obligations.TableAndBufferWriters := by
  refine fun i s t he => ⟨exec_keepsSchedule he, fun hzero a ha => ?_, fun hzero hsched a => ?_,
    fun hzero henc hdec a => ?_⟩
  · rcases ha with hiv | hinp
    · exact exec_read_of_not_mayWrite he (fun hw => by cases hw; exact hzero rfl) hiv
    · exact exec_read_of_not_mayWrite he (fun hw => by cases hw; exact hzero rfl) hinp
  · exact exec_read_of_not_mayWrite he fun hw => by cases hw <;> contradiction
  · exact exec_read_of_not_mayWrite he fun hw => by cases hw <;> contradiction

end Sys2Proof.Machine
end

section
/-! The key schedule (spec/41_key_schedule.md): what a table-word write changes, KS_XOR and KS_ENC as chains of steps, and the
command SCHEDULE on a good and on a refused key. -/

namespace Sys2Proof.Machine

/-! ## Writes of table words (R94) -/

theorem Schedule.pAt_setP (t : Schedule) (j : Nat) (v : Word) {i : Nat} (hi : i < 18) :
    (t.setP j v).pAt i = if i = j then v else t.pAt i := by
  by_cases h : i = j
  · subst h; simp [Schedule.pAt, Schedule.setP, hi]
  · simp [Schedule.pAt, Schedule.setP, h, Ne.symm h]

@[simp] theorem Schedule.sbox_setP (t : Schedule) (j : Nat) (v : Word) : (t.setP j v).sbox = t.sbox := rfl

theorem Schedule.sAt_setP (t : Schedule) (i : Nat) (v : Word) (k j : Nat) : (t.setP i v).sAt k j = t.sAt k j := rfl

theorem Schedule.pAt_setS (t : Schedule) (k j : Nat) (v : Word) (i : Nat) : (t.setS k j v).pAt i = t.pAt i := by
  unfold Schedule.setS
  split <;> rfl

theorem Schedule.sAt_setS (t : Schedule) (k j : Nat) (v : Word) {k' j' : Nat} (hk : k' < 4) (hj : j' < 256) :
    (t.setS k j v).sAt k' j' = if k' = k ∧ j' = j then v else t.sAt k' j' := by
  unfold Schedule.setS
  split
  next b hb =>
    by_cases hkk : k' = k
    · subst hkk
      by_cases hjj : j' = j
      · subst hjj; simp [Schedule.sAt, hk, hj]
      · have hset : (b.setIfInBounds j v)[j']? = b[j']? := Vector.getElem?_setIfInBounds_ne (Ne.symm hjj)
        simp [Schedule.sAt, hb, hjj, hset, Vector.getElem?_setIfInBounds_self_of_lt hk]
    · simp [Schedule.sAt, hkk, Ne.symm hkk]
  next hb =>
    rw [Vector.getElem?_eq_none_iff] at hb
    rw [if_neg (by omega)]

/-! ## KS_XOR (R154) -/

/-- The tables after the first `n` steps of KS_XOR. -/
def xorChain (k : List Byte) (t : Schedule) (n : Nat) : Schedule := (List.range n).foldl (ksXorStep k) t

theorem xorChain_succ (k : List Byte) (t : Schedule) (n : Nat) :
    xorChain k t (n + 1) = ksXorStep k (xorChain k t n) n := by
  simp [xorChain, List.range_succ]

theorem ksXor_eq_xorChain (k : List Byte) (t : Schedule) : ksXor k t = xorChain k t 18 := rfl

/-- Step n of KS_XOR writes P[n] alone, so the first `n` steps have changed P[0..n). -/
theorem xorChain_pAt (k : List Byte) (t : Schedule) (n : Nat) {i : Nat} (hi : i < 18) :
    (xorChain k t n).pAt i = if i < n then t.pAt i ^^^ keyWord k i else t.pAt i := by
  induction n with
  | zero => rfl
  | succ n ih =>
    rw [xorChain_succ, ksXorStep, Schedule.pAt_setP _ _ _ hi]
    by_cases h : i = n
    · subst h; rw [if_pos rfl, ih, if_neg (by omega), if_pos (by omega)]
    · rw [if_neg h, ih]
      exact if_congr (by omega) rfl rfl

theorem xorChain_sbox (k : List Byte) (t : Schedule) (n : Nat) : (xorChain k t n).sbox = t.sbox := by
  induction n with
  | zero => rfl
  | succ n ih => rw [xorChain_succ, ksXorStep, Schedule.sbox_setP, ih]

/-- A key word is packed from the key bytes that its four indices come to modulo the key's length. -/
theorem keyWord_of_indices {k : List Byte} {n i a b c d : Nat} (hn : k.length = n) (ha : 4 * i % n = a)
    (hb : (4 * i + 1) % n = b) (hc : (4 * i + 2) % n = c) (hd : (4 * i + 3) % n = d) :
    keyWord k i = byteAt k a ++ byteAt k b ++ byteAt k c ++ byteAt k d := by
  subst hn ha hb hc hd; rfl

/-- Settles O15: the chain of KS_XOR steps gives the words, and each of R160's lengths fixes the indices. -/
theorem keyXorCyclesTheKey : Obligations.KeyXorCyclesTheKey := by
  intro k t
  refine ⟨fun i hi => ?_, ?_, fun i hi => ⟨fun hn => ?_, fun hn => ?_, fun hn => ?_, fun hn => ?_⟩⟩
  · rw [ksXor_eq_xorChain, xorChain_pAt k t 18 hi, if_pos hi]; rfl
  · rw [ksXor_eq_xorChain, xorChain_sbox]
  · exact keyWord_of_indices hn (by omega) (by omega) (by omega) (by omega)
  all_goals split_ifs <;> exact keyWord_of_indices hn (by omega) (by omega) (by omega) (by omega)

/-! ## KS_ENC (R155 to R157) -/

/-- The tables and the block after the first `n` steps of KS_ENC on the tables `t`. -/
def encChain (t : Schedule) (n : Nat) : Schedule × Block := (List.range n).foldl ksEncStep (t, Block.zero)

theorem encChain_succ (t : Schedule) (n : Nat) : encChain t (n + 1) = ksEncStep (encChain t n) n := by
  simp [encChain, List.range_succ]

theorem derive_eq_encChain (k : List Byte) : derive k = (encChain (ksXor k piSchedule) 521).1 := rfl

/-- Where step k of KS_ENC changes P (R156). -/
theorem ksStore_pAt (t : Schedule) (k : Nat) (b : Block) {i : Nat} (hi : i < 18) :
    (ksStore t k b).pAt i =
      if k < 9 ∧ i = 2 * k then b.l else if k < 9 ∧ i = 2 * k + 1 then b.r else t.pAt i := by
  unfold ksStore
  by_cases hk : k < 9
  · simp only [hk, if_true, true_and, Schedule.pAt_setP _ _ _ hi]
    apply ite_ite_comm; omega
  · simp only [hk, if_false, false_and, Schedule.pAt_setS]

/-- Where step k of KS_ENC changes S (R156). -/
theorem ksStore_sAt (t : Schedule) (k : Nat) (b : Block) {n j : Nat} (hn : n < 4) (hj : j < 256) :
    (ksStore t k b).sAt n j =
      if 9 ≤ k ∧ n = (k - 9) / 128 ∧ j = 2 * ((k - 9) % 128) then b.l
      else if 9 ≤ k ∧ n = (k - 9) / 128 ∧ j = 2 * ((k - 9) % 128) + 1 then b.r
      else t.sAt n j := by
  unfold ksStore
  by_cases hk : k < 9
  · rw [if_pos hk, if_neg (by omega), if_neg (by omega), Schedule.sAt_setP, Schedule.sAt_setP]
  · have hk' : 9 ≤ k := by omega
    simp only [hk, hk', if_false, true_and, Schedule.sAt_setS _ _ _ _ hn hj]
    apply ite_ite_comm; omega

/-- Settles O16: the chain is `encChain` of the XORed constants. -/
theorem derivationIsChainedEncryption : Obligations.DerivationIsChainedEncryption := by
  intro key
  refine ⟨encChain (ksXor key piSchedule), rfl, derive_eq_encChain key, fun k _ => ?_⟩
  rw [encChain_succ]
  exact ⟨rfl, fun i hi => ksStore_pAt _ _ _ hi, fun t j ht hj => ksStore_sAt _ _ _ ht hj⟩

/-! ## SCHEDULE (R151 to R163) -/

/-- A cleared buffer holds 0x00 in every byte. -/
theorem State.bufClear_holds (s : State) (b : Buf) : BufHolds b [] (s.bufClear b) := by
  intro i hi
  rw [State.bufClear_params] at hi
  have hi' : i < (zeros (b.size s.params)).length := by rwa [zeros_length]
  rw [State.bufRead, State.bufClear_mem, Memory.read_write_inside hi']
  simp [zeros]

/-- What a buffer holds depends on memory and the parameters alone. -/
theorem BufHolds.of_eq {b : Buf} {r : List Byte} {s t : State} (h : BufHolds b r s) (hmem : t.mem = s.mem)
    (hp : t.params = s.params) : BufHolds b r t := by
  unfold BufHolds State.bufRead at *
  rw [hmem, hp]
  exact h

theorem State.scheduleKey_clearsKey (s : State) (k : List Byte) : BufHolds .key [] (s.scheduleKey k) :=
  (s.spendDatapath.bufClear_holds .key).of_eq rfl rfl

theorem State.scheduleKeySize_clearsKey (s : State) : BufHolds .key [] s.scheduleKeySize :=
  (s.bufClear_holds .key).of_eq rfl rfl

@[simp] theorem State.scheduleKey_sched (s : State) (k : List Byte) : (s.scheduleKey k).sched = derive k := by
  simp [State.scheduleKey]

/-- The completion of a SCHEDULE that derives its tables (R158, R342). -/
theorem State.scheduleKey_completes (s : State) (k : List Byte) :
    CompletedWith .ok s (s.scheduleKey k) ∧ (s.scheduleKey k).schedValid = true ∧
      (s.scheduleKey k).faultUndef = s.faultUndef := by
  simp [CompletedWith, State.scheduleKey]

/-- The key lengths that R152 refuses. -/
theorem State.keyLengthOk_eq_false_iff {s : State} :
    s.keyLengthOk = false ↔ s.keylen.toNat < 4 ∨ 56 < s.keylen.toNat := by
  rw [← Bool.not_eq_true, State.keyLengthOk_iff]
  omega

/-- Settles O17: with its operand defined, SCHEDULE is `scheduleKey`. -/
theorem scheduleDerivesTheTables : Obligations.ScheduleDerivesTheTables := by
  intro s k hmin hmax hk
  obtain ⟨hcompleted, hvalid, hfault⟩ := s.scheduleKey_completes k
  exact ⟨s.scheduleKey k, execSchedule_of_keyBytes_some (State.keyLengthOk_iff.2 ⟨hmin, hmax⟩) hk, hcompleted,
    s.scheduleKey_sched k, hvalid, s.scheduleKey_clearsKey k, hfault⟩

/-- Settles O18: a refused key is only cleared. -/
theorem scheduleRefusesKeySize : Obligations.ScheduleRefusesKeySize := by
  intro s hlen
  exact ⟨s.scheduleKeySize, execSchedule_of_keyLength_bad (State.keyLengthOk_eq_false_iff.2 hlen), ⟨rfl, rfl, rfl, rfl⟩,
    ⟨rfl, rfl⟩, ⟨rfl, rfl, rfl⟩, s.scheduleKeySize_clearsKey, rfl⟩

/-- Settles O20: the two states have one key operand, and the tables are derived from it. -/
theorem scheduleDependsOnKeyBytesOnly : Obligations.ScheduleDependsOnKeyBytesOnly := by
  intro s s' t t' hmin hmax hlen hbytes he he'
  have hok : s.keyLengthOk = true := State.keyLengthOk_iff.2 ⟨hmin, hmax⟩
  have hok' : s'.keyLengthOk = true := State.keyLengthOk_iff.2 (hlen ▸ ⟨hmin, hmax⟩)
  have hsame : s'.keyBytes = s.keyBytes := by
    rw [State.keyBytes, hlen]
    exact Memory.readRange_congr fun i hi => (hbytes i hi).2
  rcases hk : s.keyBytes with _ | k
  · obtain ⟨i, hi, hnone⟩ := State.keyBytes_eq_none.1 hk
    exact absurd hnone (hbytes i hi).1
  · cases he.symm.trans (execSchedule_of_keyBytes_some hok hk)
    cases he'.symm.trans (execSchedule_of_keyBytes_some hok' (hsame.trans hk))
    rw [State.scheduleKey_sched, State.scheduleKey_sched]

end Sys2Proof.Machine
end

section
/-! The engine's internal steps: the key-schedule sequencer reaches the derived tables (R150, R159), and no internal step
changes what the command completes with (R150, R203, R270, R395). -/

namespace Sys2Proof.Machine

/-! ## Runs of internal steps -/

/-- The last of `n + 1` internal steps is a step from where the first `n` lead. -/
theorem State.ticks_succ (n : Nat) (s : State) : s.ticks (n + 1) = (s.ticks n).tick := by
  induction n generalizing s with
  | zero => rfl
  | succ n ih => exact ih s.tick

@[simp] theorem State.ticks_cmdreg (n : Nat) (s : State) : (s.ticks n).cmdreg = s.cmdreg := by
  induction n with
  | zero => rfl
  | succ n ih => rw [State.ticks_succ, State.tick_cmdreg, ih]

@[simp] theorem State.tick_keyLengthOk (s : State) : s.tick.keyLengthOk = s.keyLengthOk := by
  simp [State.keyLengthOk]

@[simp] theorem State.tick_keyBytes (s : State) : s.tick.keyBytes = s.keyBytes := by
  simp [State.keyBytes, State.bufBytes]

@[simp] theorem State.ticks_keyLengthOk (n : Nat) (s : State) : (s.ticks n).keyLengthOk = s.keyLengthOk := by
  induction n with
  | zero => rfl
  | succ n ih => rw [State.ticks_succ, State.tick_keyLengthOk, ih]

@[simp] theorem State.ticks_keyBytes (n : Nat) (s : State) : (s.ticks n).keyBytes = s.keyBytes := by
  induction n with
  | zero => rfl
  | succ n ih => rw [State.ticks_succ, State.tick_keyBytes, ih]

/-- Under SCHEDULE the internal steps are the sequencer's. -/
theorem State.tick_of_schedule {s : State} (h : decode s.cmdreg = .command .schedule) : s.tick = s.ksTick := by
  simp only [State.tick, h]

/-! ## The sequencer's run (R150) -/

@[simp] theorem State.ksPhaseTo_sched (s : State) (p : KsPhase) : (s.ksPhaseTo p).sched = s.sched := rfl

/-- Where the sequencer of a SCHEDULE with key `k` stands after `n` steps from KS_CHECK, and what the tables hold there. -/
inductive SequencerAt (k : List Byte) (s : State) : Nat → Prop where
  | check (phase : s.ksPhase = .check) : SequencerAt k s 0
  | init (phase : s.ksPhase = .init) : SequencerAt k s 1
  | xor (i : Nat) (phase : s.ksPhase = .xor) (idx : s.ksIdx.toNat = i) (bound : i < 18)
      (tables : s.sched = xorChain k piSchedule i) : SequencerAt k s (i + 2)
  | enc (j : Nat) (phase : s.ksPhase = .enc) (idx : s.ksIdx.toNat = j) (bound : j < 521)
      (chain : (s.sched, ⟨s.xl, s.xr⟩) = encChain (ksXor k piSchedule) j) : SequencerAt k s (j + 20)
  | done (phase : s.ksPhase = .done) (tables : s.sched = derive k) : SequencerAt k s 541

/-- The sequencer stands in KS_DONE after 541 steps and not before. -/
theorem SequencerAt.done_iff {k : List Byte} {s : State} {n : Nat} (h : SequencerAt k s n) :
    s.ksPhase = .done ↔ n = 541 := by
  cases h with
  | check hp | init hp => simp [hp]
  | xor i hp _ hi => simp only [hp, reduceCtorEq, false_iff]; omega
  | enc j hp _ hj => simp only [hp, reduceCtorEq, false_iff]; omega
  | done hp => simp [hp]

theorem SequencerAt.sched_of_done {k : List Byte} {s : State} {n : Nat} (h : SequencerAt k s n)
    (hd : s.ksPhase = .done) : s.sched = derive k := by
  cases h with
  | done _ ht => exact ht
  | check hp | init hp | xor _ hp | enc _ hp => simp [hp] at hd

/-- KS_IDX counts up within KS_XOR and KS_ENC without wrapping. -/
theorem toNat_ksIdx_succ {x : BitVec 10} (h : x.toNat < 520) : (x + 1#10).toNat = x.toNat + 1 := by
  simp only [BitVec.toNat_add, BitVec.toNat_ofNat]; omega

/-- One step of KS_XOR, the last of which enters KS_ENC with the block (0, 0) (R154, R155). -/
theorem SequencerAt.ksXorTick {k : List Byte} {s : State} {i : Nat} (hp : s.ksPhase = .xor) (hidx : s.ksIdx.toNat = i)
    (hi : i < 18) (ht : s.sched = xorChain k piSchedule i) : SequencerAt k (s.ksXorTick k) (i + 3) := by
  have hstep : ksXorStep k s.sched s.ksIdx.toNat = xorChain k piSchedule (i + 1) := by rw [ht, hidx, xorChain_succ]
  simp only [State.ksXorTick, hstep]
  split
  next hlt => exact .xor (i + 1) hp (by rw [toNat_ksIdx_succ (by omega), hidx]) (by omega) rfl
  next hge =>
    obtain rfl : i = 17 := by omega
    exact .enc 0 rfl rfl (by omega) rfl

/-- One step of KS_ENC, the last of which enters KS_DONE (R156, R158). -/
theorem SequencerAt.ksEncTick {k : List Byte} {s : State} {j : Nat} (hp : s.ksPhase = .enc) (hidx : s.ksIdx.toNat = j)
    (hj : j < 521) (hc : (s.sched, ⟨s.xl, s.xr⟩) = encChain (ksXor k piSchedule) j) :
    SequencerAt k s.ksEncTick (j + 21) := by
  have hstep : ksEncStep (s.sched, ⟨s.xl, s.xr⟩) s.ksIdx.toNat = encChain (ksXor k piSchedule) (j + 1) := by
    rw [hc, hidx, encChain_succ]
  simp only [State.ksEncTick, hstep]
  split
  next hlt => exact .enc (j + 1) hp (by rw [toNat_ksIdx_succ (by omega), hidx]) (by omega) rfl
  next hge =>
    obtain rfl : j = 520 := by omega
    have htables : (encChain (ksXor k piSchedule) (520 + 1)).1 = derive k := by rw [derive_eq_encChain]
    exact .done rfl (by simp only [State.ksPhaseTo_sched, htables])

/-- Every step before the 541st advances the sequencer of a good, written key. -/
theorem SequencerAt.ksTick {k : List Byte} {s : State} {n : Nat} (h : SequencerAt k s n) (hok : s.keyLengthOk = true)
    (hk : s.keyBytes = some k) (hn : n < 541) : SequencerAt k s.ksTick (n + 1) := by
  cases h with
  | check hp => simp only [State.ksTick, hp, hok, hk]; exact .init rfl
  | init hp => simp only [State.ksTick, hp]; exact .xor 0 rfl rfl (by omega) rfl
  | xor i hp hidx hi ht => simp only [State.ksTick, hp, hk]; exact .ksXorTick hp hidx hi ht
  | enc j hp hidx hj hc => simp only [State.ksTick, hp]; exact .ksEncTick hp hidx hj hc
  | done => omega

/-- The sequencer of a good, written key is where `SequencerAt` says after every number of steps up to 541. -/
theorem SequencerAt.ticks {k : List Byte} {s : State} (hd : decode s.cmdreg = .command .schedule)
    (hp : s.ksPhase = .check) (hok : s.keyLengthOk = true) (hk : s.keyBytes = some k) {n : Nat} (hn : n ≤ 541) :
    SequencerAt k (s.ticks n) n := by
  induction n with
  | zero => exact .check hp
  | succ n ih =>
    rw [State.ticks_succ, State.tick_of_schedule (by rwa [State.ticks_cmdreg])]
    exact (ih (by omega)).ksTick (by rwa [State.ticks_keyLengthOk]) (by rwa [State.ticks_keyBytes]) hn

/-- In KS_CHECK the sequencer goes straight to KS_DONE for a refused key length (R152). -/
theorem State.ksTick_of_keyLength_bad {s : State} (hp : s.ksPhase = .check) (hok : s.keyLengthOk = false) :
    s.ksTick = s.ksPhaseTo .done := by
  simp [State.ksTick, hp, hok]

/-- Settles O21, by the sequencer's position after each number of steps. -/
theorem sequencerRefinesDerive : Obligations.SequencerRefinesDerive := by
  refine fun s hd hp => ⟨fun k hmin hmax hk => ?_, fun hlen => ?_⟩
  · have hat : ∀ {n}, n ≤ 541 → SequencerAt k (s.ticks n) n :=
      SequencerAt.ticks hd hp (State.keyLengthOk_iff.2 ⟨hmin, hmax⟩) hk
    have hdone : (s.ticks 541).ksPhase = .done := (hat le_rfl).done_iff.2 rfl
    exact ⟨hdone, (hat le_rfl).sched_of_done hdone, fun n hn h => hn.ne ((hat hn.le).done_iff.1 h)⟩
  · have hone : s.ticks 1 = s.ksPhaseTo .done := by
      rw [State.ticks_succ, State.ticks, State.tick_of_schedule hd,
        State.ksTick_of_keyLength_bad hp (State.keyLengthOk_eq_false_iff.2 hlen)]
    rw [hone]
    exact ⟨rfl, rfl⟩

/-! ## The result does not depend on the internal steps -/

/-- A sequencer step writes only the tables, the datapath and the sequencer's own registers. -/
theorem State.ksTick_frame (s : State) :
    ∃ t x y p i, s.ksTick = { s with sched := t, xl := x, xr := y, ksPhase := p, ksIdx := i } := by
  rcases s.ksTick_cases with hs | ⟨t, x, y, p, hs, -⟩ | ⟨t, x, y, hs, -⟩
  · exact ⟨_, _, _, _, _, hs⟩
  · exact ⟨_, _, _, _, _, hs⟩
  · exact ⟨_, _, _, _, _, hs⟩

/-- The sequencer takes no step in KS_IDLE and KS_DONE (R150). -/
theorem State.ksTick_of_resting {s : State} (hp : s.ksPhase = .idle ∨ s.ksPhase = .done) : s.ksTick = s := by
  rcases hp with hp | hp <;> simp only [State.ksTick, hp]

/-- For a refused key length the sequencer never touches the tables and the datapath. -/
theorem State.ksTick_keepsTables {s : State} (hr : SequencerReady s) (hok : s.keyLengthOk = false) :
    ∃ p i, s.ksTick = { s with ksPhase := p, ksIdx := i } := by
  have hnot : ¬ (s.ksPhase = .init ∨ s.ksPhase = .xor ∨ s.ksPhase = .enc) := fun hp => by
    simpa [hok] using (hr hp).1
  rcases hp : s.ksPhase
  case idle => exact ⟨_, _, State.ksTick_of_resting (.inl hp)⟩
  case check => exact ⟨_, _, State.ksTick_of_keyLength_bad hp hok⟩
  case done => exact ⟨_, _, State.ksTick_of_resting (.inr hp)⟩
  case init | xor | enc => exact absurd (by simp [hp]) hnot

/-- SCHEDULE does not depend on what a sequencer step may have written. -/
theorem execSchedule_ksTick {s : State} (hr : SequencerReady s) : execSchedule s.ksTick = execSchedule s := by
  rcases execSchedule_cases s with ⟨hok, hs⟩ | ⟨hok, hk, hs⟩ | ⟨k, hok, hk, hs⟩ <;> rw [hs]
  · obtain ⟨p, i, ht⟩ := State.ksTick_keepsTables hr hok
    rw [ht]
    exact execSchedule_of_keyLength_bad hok
  · obtain ⟨t, x, y, p, i, ht⟩ := s.ksTick_frame
    rw [ht]
    exact execSchedule_of_keyBytes_none hok hk
  · obtain ⟨t, x, y, p, i, ht⟩ := s.ksTick_frame
    rw [ht]
    exact execSchedule_of_keyBytes_some hok hk

/-- ENCRYPT and DECRYPT do not depend on CHAIN and BLK_IDX: they start from IV and leave both 0 (R270, R272). -/
theorem State.cryptCommand_modeTick (d d' : Dir) (s : State) : (s.modeTick d').cryptCommand d = s.cryptCommand d := by
  rcases s.modeTick_cases d' with hs | ⟨-, c, hs⟩ <;> rw [hs]
  rfl

/-- The block core steps only with a valid schedule. -/
theorem State.coreTick_of_invalid {s : State} (h : s.schedValid = false) (f : Schedule → Block → Nat → Block) :
    s.coreTick f = s := by
  simp [State.coreTick, h]

theorem State.transformBlk_of_valid {s : State} (h : s.schedValid = true) (f : Schedule → Block → Block) :
    s.transformBlk f = ({ s.spendDatapath with
      blkL := (f s.sched s.blk).l, blkR := (f s.sched s.blk).r } : State).complete .ok := by
  simp [State.transformBlk, h]

/-- ENCBLK and DECBLK start from BLK and leave XL, XR free (R51, R203). -/
theorem State.transformBlk_coreTick (f : Schedule → Block → Block) (g : Schedule → Block → Nat → Block) (s : State) :
    (s.coreTick g).transformBlk f = s.transformBlk f := by
  rcases hv : s.schedValid
  · rw [State.coreTick_of_invalid hv]
  · rcases s.coreTick_cases g with hs | ⟨-, x, y, hs⟩ <;> rw [hs]
    have hv' : ({ s with xl := x, xr := y, rnd := s.rnd + 1#5 } : State).schedValid = true := hv
    rw [State.transformBlk_of_valid hv', State.transformBlk_of_valid hv]
    rfl

/-- One internal step changes nothing about what the command completes with. -/
theorem exec_tick {s : State} {i : Instr} (hr : SequencerReady s) (hd : decode s.cmdreg = .command i) :
    exec i s.tick = exec i s := by
  unfold State.tick
  rw [hd]
  cases i with
  | nop | clrerr | zeroize => rfl
  | schedule => exact execSchedule_ksTick hr
  | encrypt | decrypt => exact congrArg Host.Outcome.next (s.cryptCommand_modeTick _ _)
  | encblk | decblk => exact congrArg Host.Outcome.next (s.transformBlk_coreTick _ _)

/-- A sequencer step goes past KS_CHECK only for a key it derives from. -/
theorem SequencerReady.ksTick {s : State} (hr : SequencerReady s) : SequencerReady s.ksTick := by
  rcases s.ksTick_cases with hs | ⟨t, x, y, p, hs, rfl | hready⟩ | ⟨t, x, y, hs, -⟩ <;> rw [hs]
  · exact hr
  · simp [SequencerReady]
  · exact fun _ => hready hr
  · exact hr

theorem SequencerReady.modeTick {s : State} (hr : SequencerReady s) (d : Dir) : SequencerReady (s.modeTick d) := by
  rcases s.modeTick_cases d with hs | ⟨-, c, hs⟩ <;> rw [hs] <;> exact hr

theorem SequencerReady.coreTick {s : State} (hr : SequencerReady s) (f : Schedule → Block → Nat → Block) :
    SequencerReady (s.coreTick f) := by
  rcases s.coreTick_cases f with hs | ⟨-, x, y, hs⟩ <;> rw [hs] <;> exact hr

/-- Every internal step, whatever the command, leaves the sequencer ready. -/
theorem SequencerReady.tick {s : State} (hr : SequencerReady s) : SequencerReady s.tick := by
  unfold State.tick
  rcases decode s.cmdreg with i | why
  · cases i with
    | nop | clrerr | zeroize => exact hr
    | schedule => exact hr.ksTick
    | encrypt | decrypt => exact hr.modeTick _
    | encblk | decblk => exact hr.coreTick _
  · exact hr

/-- Settles O10, by induction on the number of internal steps. -/
theorem resultIndependentOfInternalSteps : Obligations.ResultIndependentOfInternalSteps := by
  intro s i n hr hd
  induction n generalizing s with
  | zero => rfl
  | succ n ih => exact (ih s.tick hr.tick (by rwa [State.tick_cmdreg])).trans (exec_tick hr hd)

end Sys2Proof.Machine
end

section
/-! The constant table PI[0..1041] and the tables KS_INIT loads (R153, R190, R192). The table and `piSchedule` are made of the
same five parts, P and the four S-boxes, so the layout and the spot values are facts about those parts. The values and the
layout are PRESUMED (log 19). -/

namespace Sys2Proof.Machine

/-! ## The parts of the table (R190) -/

theorem piP_length : piP.length = 18 := rfl

/-- The four S-boxes, in the order in which the table holds them after P. -/
def piBoxes : List (List Word) := [piS0, piS1, piS2, piS3]

theorem piTable_eq_append_flatten : piTable = piP ++ piBoxes.flatten := by
  simp [piTable, piBoxes]

theorem piBoxes_map_length : piBoxes.map List.length = List.replicate 4 256 := by
  simp only [piBoxes, List.map_cons, List.map_nil, piS0_length, piS1_length, piS2_length, piS3_length, List.replicate]

theorem length_of_mem_piBoxes {l : List Word} (hl : l ∈ piBoxes) : l.length = 256 :=
  List.eq_of_mem_replicate (piBoxes_map_length ▸ List.mem_map_of_mem hl)

theorem piTable_length : piTable.length = 1042 := by
  rw [piTable_eq_append_flatten, List.length_append, List.length_flatten, piBoxes_map_length, piP_length]
  rfl

theorem piTable_getElem?_p {i : Nat} (hi : i < 18) : piTable[i]? = piP[i]? := by
  rw [piTable_eq_append_flatten, List.getElem?_append_left (by rwa [piP_length])]

/-- Box `k` starts after P and the `k` boxes before it, 256 words each. -/
theorem drop_piTable_eq_flatten {k : Nat} (hk : k ≤ 4) : piTable.drop (18 + 256 * k) = (piBoxes.drop k).flatten := by
  have hstart : ((piBoxes.map List.length).take k).sum = 256 * k := by
    rw [piBoxes_map_length, List.take_replicate, List.sum_replicate, Nat.min_eq_left hk, smul_eq_mul, Nat.mul_comm]
  rw [← List.drop_sum_flatten, hstart, piTable_eq_append_flatten, ← piP_length, List.drop_length_add_append]

theorem piTable_getElem?_sbox {k j : Nat} (hk : k < piBoxes.length) (hj : j < 256) :
    piTable[18 + 256 * k + j]? = piBoxes[k][j]? := by
  have hlt : j < piBoxes[k].length := by rwa [length_of_mem_piBoxes (List.getElem_mem hk)]
  rw [← List.getElem?_drop, drop_piTable_eq_flatten (Nat.le_of_lt hk), List.drop_eq_getElem_cons hk, List.flatten_cons,
    List.getElem?_append_left hlt]

/-! ## The tables KS_INIT loads (R153) -/

theorem piSchedule_p_getElem? (i : Nat) : piSchedule.p[i]? = piP[i]? :=
  (Vector.getElem?_toArray (xs := piSchedule.p)).symm.trans List.getElem?_toArray

theorem sboxOf_getElem? (l : List Word) (h : l.length = 256) (j : Nat) : (sboxOf l h)[j]? = l[j]? := by
  simp [sboxOf]

theorem piSchedule_sbox_getElem? (k j : Nat) :
    piSchedule.sbox[k]?.bind (·[j]?) = piBoxes[k]?.bind (·[j]?) :=
  match k with
  | 0 => sboxOf_getElem? piS0 piS0_length j
  | 1 => sboxOf_getElem? piS1 piS1_length j
  | 2 => sboxOf_getElem? piS2 piS2_length j
  | 3 => sboxOf_getElem? piS3 piS3_length j
  | _ + 4 => rfl

theorem piP_getElem?_eq_pAt {i : Nat} (hi : i < 18) : piP[i]? = some (piSchedule.pAt i) := by
  have hlt : i < piP.length := by rwa [piP_length]
  rw [Schedule.pAt, piSchedule_p_getElem?, List.getElem?_eq_getElem hlt, Option.getD_some]

theorem piBoxes_getElem?_eq_sAt {k j : Nat} (hk : k < piBoxes.length) (hj : j < 256) :
    piBoxes[k][j]? = some (piSchedule.sAt k j) := by
  have hlt : j < piBoxes[k].length := by rwa [length_of_mem_piBoxes (List.getElem_mem hk)]
  rw [Schedule.sAt, piSchedule_sbox_getElem?, List.getElem?_eq_getElem hk, Option.bind_some,
    List.getElem?_eq_getElem hlt, Option.getD_some]

/-- Settles O14: the table and `piSchedule` have the same five parts, and each spot value is the first or last word of a
part. -/
theorem initialTablesArePi : Obligations.InitialTablesArePi := by
  refine ⟨piTable_length, fun i hi => ?layoutP, fun k j hk hj => ?layoutS, ?firstP, ?lastP, ?firstS0, ?firstS1, ?firstS2,
    ?firstS3, ?lastS3⟩
  case layoutP => exact (piTable_getElem?_p hi).trans (piP_getElem?_eq_pAt hi)
  case layoutS => exact (piTable_getElem?_sbox hk hj).trans (piBoxes_getElem?_eq_sAt hk hj)
  case firstP => exact piTable_getElem?_p (i := 0) (by decide)
  case lastP => exact piTable_getElem?_p (i := 17) (by decide)
  case firstS0 => exact piTable_getElem?_sbox (k := 0) (j := 0) (by decide) (by decide)
  case firstS1 => exact piTable_getElem?_sbox (k := 1) (j := 0) (by decide) (by decide)
  case firstS2 => exact piTable_getElem?_sbox (k := 2) (j := 0) (by decide) (by decide)
  case firstS3 => exact piTable_getElem?_sbox (k := 3) (j := 0) (by decide) (by decide)
  case lastS3 => exact piTable_getElem?_sbox (k := 3) (j := 255) (by decide) (by decide)

end Sys2Proof.Machine
end

section
/-! The block core (R200 to R210). Both directions are one construction on 18 round words, read in opposite orders. It is
stated over rounds that all swap, where the model's last round does not: that form has a simple invariant in each
direction. -/

namespace Sys2Proof.Machine

/-! ## The F function (R200) -/

theorem add32_toNat (a b : Word) : (add32 a b).toNat = (a.toNat + b.toNat) % 2 ^ 32 := BitVec.toNat_add a b

/-- The byte of a word from bit `i` up. -/
theorem Word.byte_toNat (x : Word) (i : Nat) : (x.extractLsb' i 8).toNat = x.toNat / 2 ^ i % 256 := by
  rw [BitVec.extractLsb'_toNat, Nat.shiftRight_eq_div_pow]

/-- The most significant byte needs no remainder. -/
theorem Word.topByte_toNat (x : Word) : (x.extractLsb' 24 8).toNat = x.toNat / 2 ^ 24 := by
  rw [Word.byte_toNat]
  exact Nat.mod_eq_of_lt (by omega)

theorem Word.lowByte_toNat (x : Word) : (x.extractLsb' 0 8).toNat = x.toNat % 256 := by
  rw [Word.byte_toNat, Nat.pow_zero, Nat.div_one]

/-- Settles O22: the byte slices are quotients and remainders, and `add32` is addition modulo 2^32. -/
theorem feistelFunction : Obligations.FeistelFunction := by
  intro t x
  simp only [feistelF, add32_toNat, BitVec.toNat_xor, Word.topByte_toNat, Word.lowByte_toNat, Word.byte_toNat x 16,
    Word.byte_toNat x 8]

/-! ## Rounds that all swap -/

/-- The block with its halves exchanged. -/
def swapHalves (b : Block) : Block := ⟨b.r, b.l⟩

/-- One round with round word `k`, swap included. -/
def swapRound (t : Schedule) (k : Word) (b : Block) : Block := ⟨b.r ^^^ feistelF t (b.l ^^^ k), b.l ^^^ k⟩

theorem feistelRound_of_lt {i : Nat} (hi : i < 15) (t : Schedule) (k : Word) (b : Block) :
    feistelRound t k i b = swapRound t k b := if_pos hi

/-- The 16th round leaves out the swap (R202). -/
theorem feistelRound_last (t : Schedule) (k : Word) (b : Block) :
    feistelRound t k 15 b = swapHalves (swapRound t k b) := rfl

/-- The first `n` rounds, each swapping, with round words `p 0, p 1, …`. -/
def swapRounds (t : Schedule) (p : Nat → Word) (b : Block) : Nat → Block
  | 0 => b
  | n + 1 => swapRound t (p n) (swapRounds t p b n)

/-- The block transform with round words `p`: 16 rounds, then whitening with `p 16` and `p 17`. -/
def keyedTransform (t : Schedule) (p : Nat → Word) (b : Block) : Block :=
  ⟨(swapRounds t p b 16).r ^^^ p 17, (swapRounds t p b 16).l ^^^ p 16⟩

theorem foldl_feistelRound_eq_swapRounds (t : Schedule) (p : Nat → Word) (b : Block) {n : Nat} (hn : n ≤ 15) :
    (List.range n).foldl (fun c i => feistelRound t (p i) i c) b = swapRounds t p b n := by
  induction n with
  | zero => rfl
  | succ n ih =>
    rw [List.range_succ, List.foldl_append, ih (by omega)]
    exact feistelRound_of_lt hn t (p n) _

/-- All 16 rounds: the halves are exchanged against 16 rounds that swap. -/
theorem foldl_feistelRound_rounds (t : Schedule) (p : Nat → Word) (b : Block) :
    (List.range Config.rounds).foldl (fun c i => feistelRound t (p i) i c) b = swapHalves (swapRounds t p b 16) := by
  rw [Config.rounds, List.range_succ, List.foldl_append, foldl_feistelRound_eq_swapRounds t p b (Nat.le_refl 15)]
  exact feistelRound_last t (p 15) _

/-- EncryptBlock reads P from 0 up (R202). -/
theorem encryptBlock_eq_keyedTransform (t : Schedule) (b : Block) : encryptBlock t b = keyedTransform t t.pAt b :=
  congrArg (encWhiten t) (foldl_feistelRound_rounds t t.pAt b)

/-- The round words of DecryptBlock: P from 17 down (R206). -/
def Schedule.pDown (t : Schedule) (i : Nat) : Word := t.pAt (17 - i)

theorem Schedule.pAt_eq_pDown (t : Schedule) {i : Nat} (hi : i ≤ 17) : t.pAt i = t.pDown (17 - i) := by
  rw [Schedule.pDown, Nat.sub_sub_self hi]

theorem decryptBlock_eq_keyedTransform (t : Schedule) (b : Block) : decryptBlock t b = keyedTransform t t.pDown b :=
  congrArg (decWhiten t) (foldl_feistelRound_rounds t t.pDown b)

/-! ## The inverse law (R207) -/

section
variable {t : Schedule} {p q : Nat → Word}

/-- A Feistel half-step is an involution given the other half (R207): the round with word `k`, given the output of the round
with word `k'` with its halves exchanged and whitened by `k` and `w`, gives the first block exchanged and whitened by `w` and
`k'`. -/
theorem swapRound_undo (b : Block) (k k' w : Word) :
    swapRound t k ⟨(swapRound t k' b).r ^^^ k, (swapRound t k' b).l ^^^ w⟩ = ⟨b.r ^^^ w, b.l ^^^ k'⟩ := by
  have hl : b.l ^^^ k' ^^^ k ^^^ k = b.l ^^^ k' := by rw [BitVec.xor_assoc, BitVec.xor_self, BitVec.xor_zero]
  have hr (x : Word) : b.r ^^^ x ^^^ w ^^^ x = b.r ^^^ w := by
    rw [BitVec.xor_assoc, BitVec.xor_comm w x, ← BitVec.xor_assoc, BitVec.xor_assoc b.r, BitVec.xor_self, BitVec.xor_zero]
  simp only [swapRound, hl, hr]

/-- Rounds with the words reversed walk back through the rounds of the first transform: after `j` of them the block is that
of `16 - j` rounds, exchanged and whitened. -/
theorem swapRounds_keyedTransform (hq : ∀ i, i ≤ 17 → q i = p (17 - i)) (b : Block) {j : Nat} (hj : j ≤ 16) :
    swapRounds t q (keyedTransform t p b) j =
      ⟨(swapRounds t p b (16 - j)).r ^^^ p (17 - j), (swapRounds t p b (16 - j)).l ^^^ p (16 - j)⟩ := by
  induction j with
  | zero => rfl
  | succ j ih =>
    have hfrom : 16 - j = (15 - j) + 1 := by omega
    have hto : 16 - (j + 1) = 15 - j := by omega
    have hword : 17 - (j + 1) = 16 - j := by omega
    rw [swapRounds, ih (by omega), hq j (by omega), hto, hword, hfrom]
    exact swapRound_undo _ _ _ _

/-- Two transforms whose round words are each other's reverse are inverse. -/
theorem keyedTransform_keyedTransform (hq : ∀ i, i ≤ 17 → q i = p (17 - i)) (b : Block) :
    keyedTransform t q (keyedTransform t p b) = b := by
  rw [keyedTransform, swapRounds_keyedTransform hq b (Nat.le_refl 16), hq 16 (by omega), hq 17 (by omega)]
  simp [swapRounds]

end

theorem decryptBlock_encryptBlock (t : Schedule) (b : Block) : decryptBlock t (encryptBlock t b) = b := by
  rw [decryptBlock_eq_keyedTransform, encryptBlock_eq_keyedTransform]
  exact keyedTransform_keyedTransform (fun _ _ => rfl) b

theorem encryptBlock_decryptBlock (t : Schedule) (b : Block) : encryptBlock t (decryptBlock t b) = b := by
  rw [decryptBlock_eq_keyedTransform, encryptBlock_eq_keyedTransform]
  exact keyedTransform_keyedTransform (fun _ => t.pAt_eq_pDown) b

/-- Settles O23. -/
theorem blockTransformsInvert : Obligations.BlockTransformsInvert :=
  fun t b => ⟨decryptBlock_encryptBlock t b, encryptBlock_decryptBlock t b⟩

/-! ## The alternating form (R210) -/

/-- Round `r` of the alternating form, on `(L, R)`. -/
def alternatingStep (t : Schedule) (c : Word × Word) (r : Nat) : Word × Word :=
  if r % 2 = 1 then (c.1, c.2 ^^^ (feistelF t c.1 ^^^ t.pAt r)) else (c.1 ^^^ (feistelF t c.2 ^^^ t.pAt r), c.2)

/-- What the alternating form holds when the swapping form holds `c` after `n` rounds: the left half already has the next
round word, and the halves have changed places if `n` is odd. -/
def alternatingOf (t : Schedule) (n : Nat) (c : Block) : Word × Word :=
  if n % 2 = 0 then (c.l ^^^ t.pAt n, c.r) else (c.r, c.l ^^^ t.pAt n)

/-- A round of the one form is a round of the other. -/
theorem alternatingStep_alternatingOf (t : Schedule) (n : Nat) (c : Block) :
    alternatingStep t (alternatingOf t n c) (n + 1) = alternatingOf t (n + 1) (swapRound t (t.pAt n) c) := by
  rcases Nat.mod_two_eq_zero_or_one n with h | h
  · have h' : (n + 1) % 2 = 1 := by omega
    simp [alternatingStep, alternatingOf, swapRound, h, h', BitVec.xor_assoc]
  · have h' : (n + 1) % 2 = 0 := by omega
    simp [alternatingStep, alternatingOf, swapRound, h, h', BitVec.xor_assoc]

theorem foldl_alternatingStep (t : Schedule) (b : Block) (n : Nat) :
    ((List.range n).map (fun i => i + 1)).foldl (alternatingStep t) (b.l ^^^ t.pAt 0, b.r) =
      alternatingOf t n (swapRounds t t.pAt b n) := by
  induction n with
  | zero => rfl
  | succ n ih =>
    rw [List.range_succ, List.map_append, List.foldl_append, ih]
    exact alternatingStep_alternatingOf t n _

/-- Settles O24: after the 16th round both forms hold the same halves, and the last two XORs are the whitening. -/
theorem alternatingFormAgrees : Obligations.AlternatingFormAgrees := by
  intro t b x
  have hx : x = alternatingOf t 16 (swapRounds t t.pAt b 16) := foldl_alternatingStep t b 16
  rw [hx]
  exact encryptBlock_eq_keyedTransform t b

/-! ## ENCBLK and DECBLK (R204, R205) -/

/-- LAST_OP is the low byte of the word that was issued (R342). -/
theorem CompletedWith.lastOp_of_cmdreg {e : ErrCode} {s t : State} (h : CompletedWith e s t) {v : Word}
    (hv : s.cmdreg = v) : t.lastOp = v.extractLsb' 0 8 := by
  obtain ⟨-, hlast, -, -⟩ := h
  rw [hlast, hv]

section
variable {s : State} (f : Schedule → Block → Block)

theorem State.transformBlk_completes_ok (h : s.schedValid = true) : CompletedWith .ok s (s.transformBlk f) := by
  simp [State.transformBlk_of_valid h, CompletedWith]

theorem State.transformBlk_blk (h : s.schedValid = true) : (s.transformBlk f).blk = f s.sched s.blk := by
  simp [State.transformBlk_of_valid h, State.blk]

theorem State.transformBlk_completes_noSchedule (h : s.schedValid = false) :
    CompletedWith .noSchedule s (s.transformBlk f) := by
  simp [State.transformBlk_of_invalid h, CompletedWith]

theorem State.transformBlk_keepsBlk (h : s.schedValid = false) : KeepsBlk s (s.transformBlk f) := by
  simp [State.transformBlk_of_invalid h, KeepsBlk]

end

/-- Settles O25. -/
theorem encblkEncryptsInPlace : Obligations.EncblkEncryptsInPlace := by
  refine fun s => ⟨fun hv => ?_, fun hv => ?_⟩
  · have hc := State.transformBlk_completes_ok encryptBlock hv
    exact ⟨_, rfl, hc, State.transformBlk_blk encryptBlock hv, hc.lastOp_of_cmdreg⟩
  · have hc := State.transformBlk_completes_noSchedule encryptBlock hv
    exact ⟨_, rfl, hc, State.transformBlk_keepsBlk encryptBlock hv, hc.lastOp_of_cmdreg⟩

/-- DECBLK after ENCBLK: the first command keeps the tables, and the second undoes the block (R207). -/
theorem State.transformBlk_decrypt_encrypt {s : State} (h : s.schedValid = true) :
    CompletedWith .ok (s.transformBlk encryptBlock) ((s.transformBlk encryptBlock).transformBlk decryptBlock) ∧
      ((s.transformBlk encryptBlock).transformBlk decryptBlock).blk = s.blk := by
  obtain ⟨hsched, hvalid⟩ := s.transformBlk_keepsSchedule encryptBlock
  have h' : (s.transformBlk encryptBlock).schedValid = true := hvalid.trans h
  refine ⟨State.transformBlk_completes_ok decryptBlock h', ?_⟩
  rw [State.transformBlk_blk decryptBlock h', hsched, State.transformBlk_blk encryptBlock h, decryptBlock_encryptBlock]

/-- Settles O26. -/
theorem decblkDecryptsInPlace : Obligations.DecblkDecryptsInPlace := by
  refine fun s => ⟨fun hv => ?_, fun hv => ?_, fun hv => ?_⟩
  · have hc := State.transformBlk_completes_ok decryptBlock hv
    exact ⟨_, rfl, hc, State.transformBlk_blk decryptBlock hv, hc.lastOp_of_cmdreg⟩
  · have hc := State.transformBlk_completes_noSchedule decryptBlock hv
    exact ⟨_, rfl, hc, State.transformBlk_keepsBlk decryptBlock hv, hc.lastOp_of_cmdreg⟩
  · obtain ⟨hc, hblk⟩ := State.transformBlk_decrypt_encrypt hv
    exact ⟨_, _, rfl, rfl, hc, congrArg Block.l hblk, congrArg Block.r hblk⟩

end Sys2Proof.Machine
end

section
/-! The padding unit (R240 to R249): what each scheme appends, and what its unpadding removes again. -/

namespace Sys2Proof.Machine

/-! ## No padding (R241) -/

theorem padNone_of_aligned {m : List Byte} (h : m.length % 8 = 0) : padNone m = .ok m := by simp [padNone, h]

theorem padNone_of_unaligned {m : List Byte} (h : m.length % 8 ≠ 0) : padNone m = .error .dataLength := by
  simp [padNone, h]

/-! ## Zero padding (R242 to R244) -/

/-- How many zero bytes zero padding appends (R242). -/
def zeroPadCount (z : ZeroPadAligned) (m : List Byte) : Nat :=
  if m.length % 8 ≠ 0 then 8 - m.length % 8 else if m = [] then 0 else if z = .full then 8 else 0

theorem padZero_eq_append (z : ZeroPadAligned) (m : List Byte) : padZero z m = m ++ zeros (zeroPadCount z m) := by
  by_cases haligned : m.length % 8 ≠ 0
  · simp [padZero, zeroPadCount, haligned]
  by_cases hempty : m = []
  · subst hempty; rfl
  · cases z <;> simp [padZero, zeroPadCount, haligned, hempty, zeros]

/-- R248: whole blocks, and one more where FULL appends a block of zeros. -/
theorem padZero_length_eq (z : ZeroPadAligned) (m : List Byte) : (padZero z m).length =
    8 * ((m.length + 7) / 8) + (if z = .full ∧ m.length % 8 = 0 ∧ m.length ≠ 0 then 8 else 0) := by
  rw [padZero_eq_append, List.length_append, zeros, List.length_replicate, zeroPadCount]
  by_cases haligned : m.length % 8 = 0
  · by_cases hempty : m = []
    · simp [hempty]
    · simp only [haligned, hempty, List.length_eq_zero_iff, ne_eq, not_true_eq_false, not_false_eq_true, if_false,
        and_true]
      omega
  · simp only [haligned, ne_eq, not_false_eq_true, if_true, false_and, and_false, if_false]
    omega

/-- Zero unpadding keeps exactly the sequences that do not end in 0x00. -/
theorem unpadZero_eq_self_iff (m : List Byte) : unpadZero m = m ↔ ¬ ∃ m', m = m' ++ [0x00#8] := by
  rcases List.eq_nil_or_concat' m with rfl | ⟨front, b, rfl⟩
  · simp [unpadZero]
  by_cases hb : b = 0x00#8
  · subst hb
    have hshorter : (unpadZero (front ++ [0x00#8])).length ≤ front.length := by
      rw [show [0x00#8] = zeros 1 from rfl, unpadZero_append_zeros]
      exact unpadZero_length_le front
    have hne : unpadZero (front ++ [0x00#8]) ≠ front ++ [0x00#8] := fun h => by simp [h] at hshorter
    exact iff_of_false hne (not_not_intro ⟨front, rfl⟩)
  · refine iff_of_true (unpadZero_append_of_ne hb) ?_
    rintro ⟨m', h⟩
    exact hb (List.singleton_inj.1 (List.append_inj_right' h rfl))

/-! ## PKCS#7 padding (R245, R246) -/

/-- `q` is `m` followed by n bytes of value n, for an n from 1 to 8. -/
def IsPkcs7Padding (m q : List Byte) : Prop :=
  ∃ n, 1 ≤ n ∧ n ≤ 8 ∧ q = m ++ List.replicate n (BitVec.ofNat 8 n)

theorem padPkcs7_isPkcs7Padding (m : List Byte) : IsPkcs7Padding m (padPkcs7 m) :=
  ⟨8 - m.length % 8, by omega, by omega, rfl⟩

theorem padPkcs7_length (m : List Byte) : (padPkcs7 m).length = 8 * (m.length / 8 + 1) := by
  simp only [padPkcs7, List.length_append, List.length_replicate]
  omega

theorem byteAt_last_append_replicate (m : List Byte) {n : Nat} (b : Byte) (hn : 1 ≤ n) :
    byteAt (m ++ List.replicate n b) ((m ++ List.replicate n b).length - 1) = b := by
  obtain ⟨k, rfl⟩ : ∃ k, n = k + 1 := ⟨n - 1, by omega⟩
  simp [byteAt]

/-- R246 gives back what stands before the padding bytes. -/
theorem IsPkcs7Padding.unpad {m q : List Byte} (h : IsPkcs7Padding m q) : unpadPkcs7 q = .ok m := by
  obtain ⟨n, h1, h8, rfl⟩ := h
  have hvalue : (BitVec.ofNat 8 n).toNat = n := Nat.mod_eq_of_lt (by omega)
  have hlast := byteAt_last_append_replicate m (BitVec.ofNat 8 n) h1
  have hnonempty : n ≠ 0 := by omega
  simp only [unpadPkcs7, hlast, hvalue]
  simp [hnonempty, h8]

/-- R246 answers PADDING, or the input is a padding and what stands before it is the answer. -/
theorem unpadPkcs7_cases (q : List Byte) :
    unpadPkcs7 q = .error .padding ∨ ∃ m, IsPkcs7Padding m q ∧ unpadPkcs7 q = .ok m := by
  unfold unpadPkcs7
  dsimp only
  generalize byteAt q (q.length - 1) = last
  split
  · exact .inl rfl
  split
  · exact .inl rfl
  next hrange =>
  split
  next hall =>
    have htail : q.drop (q.length - last.toNat) = List.replicate last.toNat last :=
      List.eq_replicate_iff.2 ⟨by rw [List.length_drop]; omega, by simpa using hall⟩
    refine .inr ⟨_, ⟨last.toNat, by omega, by omega, ?_⟩, rfl⟩
    rw [BitVec.ofNat_toNat, BitVec.setWidth_eq, ← htail, List.take_append_drop]
  · exact .inl rfl

theorem unpadPkcs7_eq_ok_iff (q m : List Byte) : unpadPkcs7 q = .ok m ↔ IsPkcs7Padding m q := by
  refine ⟨fun h => ?_, IsPkcs7Padding.unpad⟩
  rcases unpadPkcs7_cases q with herror | ⟨m', hpadding, hok⟩
  · cases herror.symm.trans h
  · cases hok.symm.trans h
    exact hpadding

theorem unpadPkcs7_error {q : List Byte} {e : ErrCode} (h : unpadPkcs7 q = .error e) : e = .padding := by
  rcases unpadPkcs7_cases q with herror | ⟨m, -, hok⟩
  · cases herror.symm.trans h
    rfl
  · cases hok.symm.trans h

/-! ## The obligations of the padding unit -/

/-- Settles O29: unpadding accepts the sequences that `IsPkcs7Padding` describes. -/
theorem pkcs7UnpadAcceptsExactlyPaddings : Obligations.Pkcs7UnpadAcceptsExactlyPaddings :=
  fun q => ⟨unpadPkcs7_eq_ok_iff q, fun _ => unpadPkcs7_error⟩

/-- Settles O28: under zero padding the appended zeros go again, so the round trip is `unpadZero` of the message itself. -/
theorem paddingRoundTripLaws : Obligations.PaddingRoundTripLaws := by
  refine ⟨fun m => ?_, fun z m h => ⟨m, padNone_of_aligned h, rfl⟩, fun z m => ?_, padZero_eq_append, fun m k h => ?_⟩
  · have hlength := padPkcs7_length m
    exact ⟨(padPkcs7_isPkcs7Padding m).unpad, by omega, by omega, by omega⟩
  · rw [padZero_eq_append, unpadZero_append_zeros]
    exact unpadZero_eq_self_iff m
  · exact (unpadZero_append_zeros m k).trans ((unpadZero_eq_self_iff m).2 h)

/-- Settles O30: each scheme's length, and OUT holds a block more than the longest message. -/
theorem paddedLengths : Obligations.PaddedLengths := by
  refine ⟨fun _ _ => padNone_of_aligned, fun _ _ => padNone_of_unaligned, fun z m => ⟨_, rfl, padZero_length_eq z m⟩,
    fun _ m => ⟨_, rfl, padPkcs7_length m⟩, fun c p m q hmax h => ?_⟩
  calc q.length ≤ m.length + 8 := (padMessage_length h).1
    _ ≤ c.msgMax + 8 := Nat.add_le_add_right hmax 8

end Sys2Proof.Machine
end

section
/-! The mode equations (R275 to R281): output block i of a pass is the block step on input block i, from the CHAIN that the
blocks before it leave; in the feedback modes that CHAIN is the ciphertext block before it. -/

namespace Sys2Proof.Machine

/-- The packing of R83 is how the model packs and unpacks. -/
theorem blockPacking (t : Schedule) : BlockPacking t :=
  ⟨fun _ _ _ _ _ _ _ _ => rfl, fun _ => rfl, fun _ => rfl, fun _ => rfl⟩

/-! ## The blocks of a message -/

theorem lt_blockCount_iff {q : List Byte} {i : Nat} : i < blockCount q ↔ 8 * i < q.length := by
  rw [blockCount]
  omega

/-- A message of whole blocks has no partial last block. -/
theorem blockCount_of_aligned {q : List Byte} (h : q.length % 8 = 0) : blockCount q = q.length / 8 := by
  rw [blockCount]
  omega

/-- Only the last block may be partial. -/
theorem blkAt_length_of_succ_lt {q : List Byte} {i : Nat} (h : i + 1 < blockCount q) : (blkAt q i).length = 8 := by
  rw [lt_blockCount_iff] at h
  rw [blkAt, List.length_take, List.length_drop]
  omega

theorem take_length_of_aligned {q : List Byte} (hne : q ≠ []) (h : q.length % 8 = 0) : (q.take 8).length = 8 := by
  have hpos : 0 < q.length := List.length_pos_iff.2 hne
  rw [List.length_take]
  omega

theorem drop_aligned {q : List Byte} (h : q.length % 8 = 0) : (q.drop 8).length % 8 = 0 := by
  rw [List.length_drop]
  omega

/-! ## The blocks of a pass -/

/-- CHAIN before block `i` of a pass over `q` (R270). -/
def passChain (d : Dir) (m : Mode) (t : Schedule) (iv : Block) (q : List Byte) : Nat → Block
  | 0 => iv
  | i + 1 => (modeStep d m t (passChain d m t iv q i) (blkAt q i)).2

section
variable (d : Dir) (m : Mode) (t : Schedule) (iv : Block) {q : List Byte}

/-- The pass over the rest of a message goes on with the CHAIN that the first block leaves. -/
theorem passChain_drop (q : List Byte) (i : Nat) :
    passChain d m t (modeStep d m t iv (q.take 8)).2 (q.drop 8) i = passChain d m t iv q (i + 1) := by
  induction i with
  | zero => rw [passChain, passChain, passChain, blkAt_zero]
  | succ i ih => exact congrArg₂ (fun c b => (modeStep d m t c b).2) ih (blkAt_succ q i).symm

/-- Output block `i` is the block step on input block `i` (R270). -/
theorem blkAt_modePass (hq : m ≠ .cfb → q.length % 8 = 0) {i : Nat} (hi : i < blockCount q) :
    blkAt (modePass d m t iv q) i = (modeStep d m t (passChain d m t iv q i) (blkAt q i)).1 := by
  induction q using blocks_induction generalizing iv i with
  | nil => simp [blockCount] at hi
  | step q hne ih =>
    have hfirst : (modeStep d m t iv (q.take 8)).1.length = (q.take 8).length :=
      modeStep_length d m t iv (List.length_take_le _ _) fun hm => take_length_of_aligned hne (hq hm)
    rw [modePass_ne_nil d m t iv hne]
    by_cases hfull : 8 ≤ q.length
    · have hfirst8 : (modeStep d m t iv (q.take 8)).1.length = 8 := by rw [hfirst, List.length_take]; omega
      cases i with
      | zero => rw [blkAt_append_zero hfirst8, passChain, blkAt_zero]
      | succ i =>
        have hi' : i < blockCount (q.drop 8) := by
          rw [lt_blockCount_iff] at hi ⊢
          rw [List.length_drop]
          omega
        rw [blkAt_append_succ hfirst8, ih _ (fun hm => drop_aligned (hq hm)) hi', passChain_drop, ← blkAt_succ]
    · have hlast : q.drop 8 = [] := List.drop_eq_nil_of_le (by omega)
      obtain rfl : i = 0 := by
        rw [lt_blockCount_iff] at hi
        omega
      rw [hlast, modePass_nil, List.append_nil, blkAt_zero, passChain, blkAt_zero,
        List.take_of_length_le (hfirst.trans_le (List.length_take_le _ _))]

end

/-! ## The CHAIN of the feedback modes -/

/-- After a full block of CBC or CFB, CHAIN is the ciphertext block: the output of encryption, the input of decryption. -/
theorem modeStep_chain {m : Mode} (hm : m ≠ .ecb) (t : Schedule) (c : Block) {b : List Byte} (hb : b.length = 8) :
    bytesOfBlock (modeStep .encrypt m t c b).2 = (modeStep .encrypt m t c b).1 ∧
      bytesOfBlock (modeStep .decrypt m t c b).2 = b := by
  cases m with
  | ecb => exact absurd rfl hm
  | cbc => exact ⟨bytesOfBlock_blockOfBytes rfl, bytesOfBlock_blockOfBytes hb⟩
  | cfb =>
    have hlen : (xorBytes b (encBytes t (bytesOfBlock c))).length = 8 := by rw [xorBytes_length, hb]; rfl
    simp only [modeStep, cfbEncStep, cfbDecStep, hb, if_true]
    exact ⟨bytesOfBlock_blockOfBytes hlen, bytesOfBlock_blockOfBytes hb⟩

section
variable {m : Mode} (hm : m ≠ .ecb) (t : Schedule) (iv : Block) {q : List Byte}
include hm

/-- Encryption feeds back the output block before (R277, R279). -/
theorem passChain_encrypt (hq : m ≠ .cfb → q.length % 8 = 0) {i : Nat} (hi : i < blockCount q) :
    bytesOfBlock (passChain .encrypt m t iv q i) =
      if i = 0 then bytesOfBlock iv else blkAt (modePass .encrypt m t iv q) (i - 1) := by
  cases i with
  | zero => rfl
  | succ i =>
    rw [if_neg (Nat.succ_ne_zero i), Nat.add_sub_cancel, blkAt_modePass _ _ _ _ hq (by omega)]
    exact (modeStep_chain hm t _ (blkAt_length_of_succ_lt hi)).1

/-- Decryption feeds back the input block before (R278, R280). -/
theorem passChain_decrypt {i : Nat} (hi : i < blockCount q) :
    bytesOfBlock (passChain .decrypt m t iv q i) = if i = 0 then bytesOfBlock iv else blkAt q (i - 1) := by
  cases i with
  | zero => rfl
  | succ i =>
    rw [if_neg (Nat.succ_ne_zero i), Nat.add_sub_cancel]
    exact (modeStep_chain hm t _ (blkAt_length_of_succ_lt hi)).2

end

/-! ## The obligations -/

/-- Settles O31: an ECB step has no CHAIN. -/
theorem ecbBlockEquations : Obligations.EcbBlockEquations := by
  intro t iv q
  refine ⟨blockPacking t, fun hq => ⟨modePass_length _ _ _ _ _ fun _ => hq, modePass_length _ _ _ _ _ fun _ => hq,
    fun i hi => ?_⟩⟩
  rw [← blockCount_of_aligned hq] at hi
  exact ⟨blkAt_modePass _ _ _ _ (fun _ => hq) hi, blkAt_modePass _ _ _ _ (fun _ => hq) hi⟩

/-- Settles O32. -/
theorem cbcBlockEquations : Obligations.CbcBlockEquations := by
  intro t iv q
  refine ⟨blockPacking t, fun hq => ⟨modePass_length _ _ _ _ _ fun _ => hq, modePass_length _ _ _ _ _ fun _ => hq,
    fun i hi => ?_⟩⟩
  have feedback : Mode.cbc ≠ .ecb := by decide
  rw [← blockCount_of_aligned hq] at hi
  rw [← passChain_encrypt feedback t iv (fun _ => hq) hi, ← passChain_decrypt feedback t iv hi]
  exact ⟨blkAt_modePass _ _ _ _ (fun _ => hq) hi, blkAt_modePass _ _ _ _ (fun _ => hq) hi⟩

/-- Settles O33: a CFB pass asks for no whole blocks. -/
theorem cfbBlockEquations : Obligations.CfbBlockEquations := by
  intro t iv q
  have feedback : Mode.cfb ≠ .ecb := by decide
  have hq : Mode.cfb ≠ .cfb → q.length % 8 = 0 := fun h => absurd rfl h
  refine ⟨blockPacking t, modePass_length _ _ _ _ _ hq, modePass_length _ _ _ _ _ hq, fun i hi => ?_⟩
  rw [← passChain_encrypt feedback t iv hq hi, ← passChain_decrypt feedback t iv hi]
  exact ⟨blkAt_modePass _ _ _ _ hq hi, blkAt_modePass _ _ _ _ hq hi⟩

end Sys2Proof.Machine
end

section
/-! The data pass (R272 to R274, R284): what each direction computes, and that decryption undoes encryption: the pass block by
block, the padding by R249. -/

namespace Sys2Proof.Machine

/-! ## Which modes do what (R35, R247) -/

theorem usesIv_iff {m : Mode} : usesIv m = true ↔ m ≠ .ecb := by cases m <;> decide

theorem blockAligned_iff {m : Mode} : blockAligned m = true ↔ m ≠ .cfb := by cases m <;> decide

/-- What ENCRYPT's pass runs over: the message under CFB, else the padded message (R273). -/
theorem passBytes_encrypt_iff {m : Mode} {p : Pad} {z : ZeroPadAligned} {msg q : List Byte} :
    passBytes .encrypt m p z msg = .ok q ↔ if m = .cfb then q = msg else padMessage z p msg = .ok q := by
  by_cases hm : m = .cfb
  · subst hm
    simp [passBytes, blockAligned, eq_comm]
  · simp [passBytes, blockAligned_iff.2 hm, hm]

/-- What DECRYPT makes of its pass: the pass itself under CFB, else the unpadded pass (R274). -/
theorem passResult_decrypt (m : Mode) (p : Pad) (r : List Byte) :
    passResult .decrypt m p r = if m = .cfb then .ok r else unpadMessage p r := by
  by_cases hm : m = .cfb
  · subst hm
    rfl
  · simp [passResult, blockAligned_iff.2 hm, hm]

/-- A successful ENCRYPT pass is the pass over the bytes of R273. -/
theorem cryptMessage_encrypt_eq_ok_iff {m : Mode} {p : Pad} {z : ZeroPadAligned} {t : Schedule} {iv : Block}
    {msg c : List Byte} : cryptMessage .encrypt m p z t iv msg = .ok c ↔
      ∃ q, passBytes .encrypt m p z msg = .ok q ∧ modePass .encrypt m t iv q = c := by
  unfold cryptMessage
  cases passBytes .encrypt m p z msg <;> simp [passResult]

/-- Under ECB and CBC, ENCRYPT's pass runs over whole blocks (R247). -/
theorem passBytes_encrypt_aligned {m : Mode} {p : Pad} {z : ZeroPadAligned} {msg q : List Byte}
    (h : passBytes .encrypt m p z msg = .ok q) (hm : m ≠ .cfb) : q.length % 8 = 0 :=
  (passBytes_length h fun _ hd => nomatch hd).2 (blockAligned_iff.2 hm)

theorem cryptMessage_decrypt (m : Mode) (p : Pad) (z : ZeroPadAligned) (t : Schedule) (iv : Block) (c : List Byte) :
    cryptMessage .decrypt m p z t iv c = passResult .decrypt m p (modePass .decrypt m t iv c) := rfl

/-! ## Decryption undoes the pass -/

theorem decBytes_encBytes (t : Schedule) {b : List Byte} (hb : b.length = 8) : decBytes t (encBytes t b) = b := by
  rw [decBytes, encBytes, blockOfBytes_bytesOfBlock, decryptBlock_encryptBlock, bytesOfBlock_blockOfBytes hb]

/-- The decryption step on the output of the encryption step gives the input back and leaves the same CHAIN. -/
theorem modeStep_decrypt_encrypt (m : Mode) (t : Schedule) (c : Block) {b : List Byte} (h8 : b.length ≤ 8)
    (hb : m ≠ .cfb → b.length = 8) :
    modeStep .decrypt m t c (modeStep .encrypt m t c b).1 = (b, (modeStep .encrypt m t c b).2) := by
  cases m with
  | ecb => exact congrArg (·, c) (decBytes_encBytes t (hb (by decide)))
  | cbc =>
    have hb := hb (by decide)
    have hxor : (xorBytes b (bytesOfBlock c)).length = 8 := by rw [xorBytes_length, hb]; rfl
    simp only [modeStep, cbcEncStep, cbcDecStep, decBytes_encBytes t hxor]
    rw [xorBytes_cancel _ _ h8]
  | cfb =>
    have hlen : (xorBytes b (encBytes t (bytesOfBlock c))).length = b.length := by
      rw [xorBytes_length, encBytes_length, Nat.min_eq_left h8]
    simp only [modeStep, cfbEncStep, cfbDecStep, hlen, xorBytes_cancel _ _ (h8.trans_eq (encBytes_length t _).symm)]

/-- A pass over a block and the rest; only the last block may be partial. -/
theorem modePass_append (d : Dir) (m : Mode) (t : Schedule) (iv : Block) {b r : List Byte} (h0 : b ≠ []) (h8 : b.length ≤ 8)
    (hr : b.length < 8 → r = []) :
    modePass d m t iv (b ++ r) = (modeStep d m t iv b).1 ++ modePass d m t (modeStep d m t iv b).2 r := by
  have hcut : (b ++ r).take 8 = b ∧ (b ++ r).drop 8 = r := by
    rcases h8.lt_or_eq with hlt | heq
    · rw [hr hlt, List.append_nil]
      exact ⟨List.take_of_length_le h8, List.drop_of_length_le h8⟩
    · exact ⟨heq ▸ List.take_left, heq ▸ List.drop_left⟩
  obtain ⟨htake, hdrop⟩ := hcut
  rw [modePass_ne_nil d m t iv (List.append_ne_nil_of_left_ne_nil h0 r), htake, hdrop]

/-- Decryption undoes the pass: of whole blocks under ECB and CBC, of any message under CFB. -/
theorem modePass_decrypt_encrypt (m : Mode) (t : Schedule) (iv : Block) {q : List Byte} (hq : m ≠ .cfb → q.length % 8 = 0) :
    modePass .decrypt m t iv (modePass .encrypt m t iv q) = q := by
  induction q using blocks_induction generalizing iv with
  | nil => rw [modePass_nil, modePass_nil]
  | step q hne ih =>
    have hpos : 0 < q.length := List.length_pos_iff.2 hne
    have h8 : (q.take 8).length ≤ 8 := List.length_take_le _ _
    have hblock : m ≠ .cfb → (q.take 8).length = 8 := fun hm => take_length_of_aligned hne (hq hm)
    have hlen : (modeStep .encrypt m t iv (q.take 8)).1.length = (q.take 8).length :=
      modeStep_length .encrypt m t iv h8 hblock
    rw [modePass_ne_nil .encrypt m t iv hne, modePass_append, modeStep_decrypt_encrypt m t iv h8 hblock,
      ih _ fun hm => drop_aligned (hq hm), List.take_append_drop]
    · rw [← List.length_pos_iff, hlen, List.length_take]
      omega
    · exact hlen.trans_le h8
    · intro hpartial
      rw [hlen, List.length_take] at hpartial
      rw [List.drop_of_length_le (by omega), modePass_nil]

/-! ## Unpadding undoes the padding -/

/-- R249, and R244 for zero padding: a message that does not end in 0x00 comes back. -/
theorem unpadMessage_padMessage {z : ZeroPadAligned} {p : Pad} {msg q : List Byte} (h : padMessage z p msg = .ok q)
    (hz : p = .zero → ¬ ∃ m', msg = m' ++ [0x00#8]) : unpadMessage p q = .ok msg := by
  cases p with
  | none =>
    by_cases ha : msg.length % 8 = 0
    · exact congrArg Except.ok (Except.ok.inj (h.symm.trans (padNone_of_aligned ha)))
    · cases h.symm.trans (padNone_of_unaligned ha)
  | zero =>
    cases h
    rw [unpadMessage, padZero_eq_append, unpadZero_append_zeros, (unpadZero_eq_self_iff msg).2 (hz rfl)]
  | pkcs7 =>
    cases h
    exact (padPkcs7_isPkcs7Padding msg).unpad

/-- Settles O39: decryption undoes the pass, and unpadding the padding. -/
theorem dataPassRoundTrip : Obligations.DataPassRoundTrip := by
  intro m p z t iv msg c henc hz
  obtain ⟨q, hq, rfl⟩ := cryptMessage_encrypt_eq_ok_iff.1 henc
  rw [cryptMessage_decrypt, modePass_decrypt_encrypt m t iv (passBytes_encrypt_aligned hq), passResult_decrypt]
  rw [passBytes_encrypt_iff] at hq
  split_ifs at hq ⊢ with hm
  · rw [hq]
  · exact unpadMessage_padMessage hq (hz hm)

/-! ## The length of a ciphertext (R285) -/

/-- Padding leaves nothing only of an empty message, and PKCS#7 never does (R248). -/
theorem padMessage_length_eq_zero_iff {z : ZeroPadAligned} {p : Pad} {msg q : List Byte} (h : padMessage z p msg = .ok q) :
    q.length = 0 ↔ msg.length = 0 ∧ p ≠ .pkcs7 := by
  cases p with
  | none =>
    have hq : q = msg := Except.ok.inj (unpadMessage_padMessage h (by simp))
    simp [hq]
  | zero =>
    cases h
    rw [padZero_length_eq]
    by_cases hempty : msg.length = 0
    · simp [hempty]
    · simp only [hempty, false_and, iff_false]
      omega
  | pkcs7 =>
    cases h
    simp [padPkcs7_length]

theorem cryptMessage_encrypt_length {m : Mode} {p : Pad} {z : ZeroPadAligned} {t : Schedule} {iv : Block}
    {msg c : List Byte} (h : cryptMessage .encrypt m p z t iv msg = .ok c) :
    (m ≠ .cfb → c.length % 8 = 0 ∧ (c.length = 0 ↔ msg.length = 0 ∧ p ≠ .pkcs7)) ∧ (m = .cfb → c.length = msg.length) := by
  obtain ⟨q, hq, rfl⟩ := cryptMessage_encrypt_eq_ok_iff.1 h
  have haligned := passBytes_encrypt_aligned hq
  rw [modePass_length .encrypt m t iv q haligned]
  rw [passBytes_encrypt_iff] at hq
  refine ⟨fun hm => ⟨haligned hm, ?_⟩, fun hm => ?_⟩
  · rw [if_neg hm] at hq
    exact padMessage_length_eq_zero_iff hq
  · rw [if_pos hm] at hq
    rw [hq]

/-! ## The errors of the padding unit (R241, R246) -/

theorem padMessage_error {z : ZeroPadAligned} {p : Pad} {msg : List Byte} {e : ErrCode}
    (h : padMessage z p msg = .error e) : e = .dataLength ∧ p = .none ∧ msg.length % 8 ≠ 0 := by
  cases p with
  | none =>
    by_cases ha : msg.length % 8 = 0
    · cases h.symm.trans (padNone_of_aligned ha)
    · cases h.symm.trans (padNone_of_unaligned ha)
      exact ⟨rfl, rfl, ha⟩
  | zero => cases h
  | pkcs7 => cases h

theorem unpadMessage_error {p : Pad} {q : List Byte} {e : ErrCode} (h : unpadMessage p q = .error e) :
    e = .padding ∧ p = .pkcs7 := by
  cases p with
  | none => cases h
  | zero => cases h
  | pkcs7 => exact ⟨unpadPkcs7_error h, rfl⟩

/-- ENCRYPT's data pass fails only for an unaligned message without padding, under ECB or CBC. -/
theorem cryptMessage_encrypt_error {m : Mode} {p : Pad} {z : ZeroPadAligned} {t : Schedule} {iv : Block}
    {msg : List Byte} {e : ErrCode} (h : cryptMessage .encrypt m p z t iv msg = .error e) :
    e = .dataLength ∧ m ≠ .cfb ∧ p = .none ∧ msg.length % 8 ≠ 0 := by
  unfold cryptMessage at h
  split at h
  next hq =>
    cases h
    by_cases hm : m = .cfb
    · subst hm
      cases hq
    · simp only [passBytes, blockAligned_iff.2 hm, if_true] at hq
      obtain ⟨he, hp, hlen⟩ := padMessage_error hq
      exact ⟨he, hm, hp, hlen⟩
  next => cases h

end Sys2Proof.Machine
end

section
/-! ENCRYPT and DECRYPT on the machine (R272 to R274, R284, R285): what a commit leaves in OUT, and the commands' results. -/

namespace Sys2Proof.Machine

/-! ## Commits (R272) -/

/-- A commit of a result that fits leaves it in OUT, and 0x00 to the end. -/
theorem State.commit_holds (s : State) {r : List Byte} (hr : r.length ≤ Buf.size s.params .out) :
    BufHolds .out r (s.commit r) := by
  intro i hi
  rw [State.commit_params] at hi
  have hi' : i < (r ++ zeros (Buf.size s.params .out - r.length)).length := by rwa [committed_length hr]
  refine (Memory.read_write_inside hi').trans (congrArg some ?_)
  by_cases hlt : i < r.length
  · rw [List.getElem_append_left hlt, List.getD_eq_getElem _ _ hlt]
  · rw [List.getElem_append_right (by omega), List.getD_eq_default _ _ (by omega)]
    exact List.getElem_replicate _

/-- OUTLEN holds the length of every result that fits. -/
theorem State.commit_outlen_toNat (s : State) {r : List Byte} (hr : r.length ≤ Buf.size s.params .out) :
    (s.commit r).outlen.toNat = r.length := by
  have hmax := msgMax_le s.params
  simp only [Buf.size] at hr
  rw [State.commit_outlen, BitVec.toNat_ofNat, Nat.mod_eq_of_lt (by omega)]

/-- What a message command leaves that completes with code `e` and result `r` (R272). -/
def Commits (e : ErrCode) (r : List Byte) (s t : State) : Prop :=
  CompletedWith e s t ∧ BufHolds .out r t ∧ t.outlen.toNat = r.length ∧ t.chain = Block.zero ∧
    t.faultUndef = s.faultUndef

theorem State.commit_complete_commits (s : State) (e : ErrCode) {r : List Byte}
    (hr : r.length ≤ Buf.size s.params .out) : Commits e r s ((s.spendDatapath.commit r).complete e) :=
  ⟨⟨rfl, rfl, rfl, rfl⟩, (s.spendDatapath.commit_holds hr).of_eq rfl rfl, s.spendDatapath.commit_outlen_toNat hr, rfl, rfl⟩

/-- The bytes a buffer holds read back as a range. -/
theorem BufHolds.bufBytes {b : Buf} {r : List Byte} {t : State} (h : BufHolds b r t) (hr : r.length ≤ b.size t.params) :
    t.bufBytes b r.length = some r := by
  refine Memory.readRange_eq_some.2 ⟨rfl, fun i hi => ?_⟩
  rw [List.getElem?_eq_getElem hi, ← List.getD_eq_getElem r 0#8 hi]
  exact h i (lt_of_lt_of_le hi hr)

/-! ## The checks and the operands (R271, R346) -/

/-- The checks pass when R346 finds nothing to report, in terms of the modes themselves. -/
theorem State.checks_eq_ok_of {d : Dir} {s : State} {m : Mode} {p : Pad} (hm : s.mode? = some m) (hp : s.pad? = some p)
    (hv : s.schedValid = true) (hiv : m ≠ .ecb → s.ivlen = 8#4) (hmax : s.msglen.toNat ≤ s.params.msgMax)
    (haligned : m ≠ .cfb → d = .decrypt ∨ p = .none → s.msglen.toNat % 8 = 0) : s.checks d = .ok (m, p) :=
  State.checks_eq_ok.2 ⟨hm, hp, hv, fun h => hiv (usesIv_iff.1 h), hmax, fun h => haligned (blockAligned_iff.1 h)⟩

theorem State.passInput_eq_some_iff {s : State} {m : Mode} {iv : Block} {msg : List Byte} :
    s.passInput m = some (iv, msg) ↔ s.ivBlock m = some iv ∧ s.message = some msg := by
  unfold State.passInput
  cases s.ivBlock m <;> cases s.message <;> simp

/-- A failed check reports an error (R345, R346). -/
theorem State.checks_ne_error_ok (d : Dir) (s : State) : s.checks d ≠ .error .ok := by
  unfold State.checks
  split
  · split_ifs <;> simp
  · simp

/-! ## The results of a message command -/

/-- A message command whose data pass succeeds commits the result. -/
theorem State.cryptCommand_commits {d : Dir} {s : State} {m : Mode} {p : Pad} {iv : Block} {msg r : List Byte}
    (hc : s.checks d = .ok (m, p)) (hi : s.passInput m = some (iv, msg))
    (hr : cryptMessage d m p s.params.zeroPadAligned s.sched iv msg = .ok r) : Commits .ok r s (s.cryptCommand d) := by
  have hs : s.cryptCommand d = (s.spendDatapath.commit r).complete .ok := by
    simp [State.cryptCommand, State.dataPass, hc, hi, hr]
  exact hs ▸ s.commit_complete_commits .ok (State.cryptMessage_fits_out hc hi hr)

/-- A message command whose data pass fails commits an empty result with the error. -/
theorem State.cryptCommand_commits_error {d : Dir} {s : State} {m : Mode} {p : Pad} {iv : Block} {msg : List Byte}
    {e : ErrCode} (hc : s.checks d = .ok (m, p)) (hi : s.passInput m = some (iv, msg))
    (hr : cryptMessage d m p s.params.zeroPadAligned s.sched iv msg = .error e) :
    Commits e [] s (s.cryptCommand d) := by
  have hs : s.cryptCommand d = (s.spendDatapath.commit []).complete e := by
    simp [State.cryptCommand, State.dataPass, hc, hi, hr, State.commitError_eq_commit]
  exact hs ▸ s.commit_complete_commits e (Nat.zero_le _)

/-- An ENCRYPT with defined operands that reports OK has passed its checks and its data pass. -/
theorem State.cryptMessage_of_encrypt_ok {s : State} {m : Mode} {p : Pad} {iv : Block} {msg : List Byte}
    (hok : (s.cryptCommand .encrypt).errcode = .ok) (hm : s.mode? = some m) (hp : s.pad? = some p)
    (hi : s.passInput m = some (iv, msg)) : s.checks .encrypt = .ok (m, p) ∧
      ∃ c, cryptMessage .encrypt m p s.params.zeroPadAligned s.sched iv msg = .ok c := by
  rcases hc : s.checks .encrypt with e | ⟨m', p'⟩
  · have herr : (s.cryptCommand .encrypt).errcode = e := by simp [State.cryptCommand, hc]
    exact absurd (herr.symm.trans hok ▸ hc) (s.checks_ne_error_ok .encrypt)
  obtain ⟨hm', hp', -⟩ := State.checks_eq_ok.1 hc
  cases hm.symm.trans hm'
  cases hp.symm.trans hp'
  refine ⟨rfl, ?_⟩
  rcases hr : cryptMessage .encrypt m p s.params.zeroPadAligned s.sched iv msg with e | c
  · obtain ⟨rfl, -⟩ := cryptMessage_encrypt_error hr
    obtain ⟨⟨herr, -⟩, -⟩ := State.cryptCommand_commits_error hc hi hr
    cases herr.symm.trans hok
  · exact ⟨c, rfl⟩

/-! ## The obligations -/

/-- Settles O34: the checks leave no message that the data pass of ENCRYPT fails on. -/
theorem encryptCommitsCiphertext : Obligations.EncryptCommitsCiphertext := by
  intro s m p iv msg hm hp hv hiv hmax haligned hivBlock hmsg
  have hc : s.checks .encrypt = .ok (m, p) :=
    State.checks_eq_ok_of hm hp hv hiv hmax fun hne hd => haligned hne (hd.resolve_left (by decide))
  have hi := State.passInput_eq_some_iff.2 ⟨hivBlock, hmsg⟩
  rcases hr : cryptMessage .encrypt m p s.params.zeroPadAligned s.sched iv msg with e | c
  · obtain ⟨-, hne, hnone, hlen⟩ := cryptMessage_encrypt_error hr
    exact absurd (haligned hne hnone) (State.message_length_of_passInput hi ▸ hlen)
  · have hcommit := State.cryptCommand_commits hc hi hr
    obtain ⟨q, hq, rfl⟩ := cryptMessage_encrypt_eq_ok_iff.1 hr
    exact ⟨q, s.cryptCommand .encrypt, passBytes_encrypt_iff.1 hq, rfl, hcommit⟩

/-- Settles O35: the result is that of the data pass of DECRYPT, and its one error is that of PKCS#7 unpadding. -/
theorem decryptCommitsPlaintextOrPadding : Obligations.DecryptCommitsPlaintextOrPadding := by
  intro s m p iv msg hm hp hv hiv hmax haligned hivBlock hmsg plain res
  have hc : s.checks .decrypt = .ok (m, p) := State.checks_eq_ok_of hm hp hv hiv hmax fun hne _ => haligned hne
  have hi := State.passInput_eq_some_iff.2 ⟨hivBlock, hmsg⟩
  have hres : cryptMessage .decrypt m p s.params.zeroPadAligned s.sched iv msg = res := passResult_decrypt m p plain
  refine ⟨fun r hr => ⟨s.cryptCommand .decrypt, rfl, State.cryptCommand_commits hc hi (hres.trans hr)⟩, fun e he => ?_⟩
  have herror : e = .padding ∧ p = .pkcs7 := by
    by_cases hcfb : m = .cfb
    · cases (if_pos hcfb).symm.trans he
    · exact unpadMessage_error ((if_neg hcfb).symm.trans he)
  obtain ⟨rfl, rfl⟩ := herror
  obtain ⟨hcompleted, hout, hlen, hrest⟩ := State.cryptCommand_commits_error hc hi (hres.trans he)
  exact ⟨rfl, rfl, s.cryptCommand .decrypt, rfl, hcompleted, hout, BitVec.eq_of_toNat_eq hlen, hrest⟩

/-- Settles O38: OUTLEN is the length of the data pass's result. -/
theorem ciphertextLength : Obligations.CiphertextLength := by
  rintro s t m p ⟨iv, msg⟩ he hok hm hp hi
  cases he
  obtain ⟨hc, c, hr⟩ := State.cryptMessage_of_encrypt_ok hok hm hp hi
  obtain ⟨-, -, houtlen, -⟩ := State.cryptCommand_commits hc hi hr
  obtain ⟨hblocks, hcfb⟩ := cryptMessage_encrypt_length hr
  rw [State.message_length_of_passInput hi] at hblocks hcfb
  rw [← houtlen] at hblocks hcfb
  refine ⟨fun hne => ?_, fun heq => BitVec.eq_of_toNat_eq (hcfb heq)⟩
  obtain ⟨hmod, hzero⟩ := hblocks hne
  rw [← BitVec.toNat_inj, ← BitVec.toNat_inj]
  exact ⟨hmod, hzero⟩

/-- Settles O40: DECRYPT's message is the result of ENCRYPT's data pass, and its own data pass gives the old message back. -/
theorem decryptRestoresEncryptedMessage : Obligations.DecryptRestoresEncryptedMessage := by
  intro s t s' m p iv msg he hok hm hp hi hz hparams hsched hv hconfig hivlen hivBlock hmsglen hmax hmsg
  cases he
  obtain ⟨hc, c, hr⟩ := State.cryptMessage_of_encrypt_ok hok hm hp hi
  obtain ⟨-, -, -, hiv, -, -⟩ := State.checks_eq_ok.1 hc
  obtain ⟨-, hout, houtlen, -, -⟩ := State.cryptCommand_commits hc hi hr
  have hc' : s'.checks .decrypt = .ok (m, p) := by
    refine State.checks_eq_ok_of ?_ ?_ hv (fun hne => hivlen.trans (hiv (usesIv_iff.2 hne))) ?_ fun hne _ => ?_
    · rw [State.mode?, hconfig]
      exact hm
    · rw [State.pad?, hconfig]
      exact hp
    · rw [hmsglen, hparams]
      exact hmax
    · rw [hmsglen, houtlen]
      exact ((cryptMessage_encrypt_length hr).1 hne).1
  have hcipher : (s.cryptCommand .encrypt).bufBytes .out c.length = some c := by
    refine hout.bufBytes ?_
    rw [State.cryptCommand_params]
    exact State.cryptMessage_fits_out hc hi hr
  rw [houtlen, hcipher] at hmsg
  have hr' : cryptMessage .decrypt m p s'.params.zeroPadAligned s'.sched iv c = .ok msg := by
    rw [hparams, hsched]
    exact dataPassRoundTrip m p _ _ iv msg c hr hz
  obtain ⟨hcompleted, hplain, hlen, -, -⟩ :=
    State.cryptCommand_commits hc' (State.passInput_eq_some_iff.2 ⟨hivBlock, hmsg⟩) hr'
  refine ⟨s'.cryptCommand .decrypt, rfl, hcompleted, BitVec.eq_of_toNat_eq ?_, hplain⟩
  rw [hlen, State.message_length_of_passInput hi]

end Sys2Proof.Machine
end

section
/-! The commands NOP, CLRERR and ZEROIZE, and the completion of an illegal word (R320 to R323): the completion writes of R342
and their frame, and the erasing of the four buffers. -/

namespace Sys2Proof.Machine

/-! ## The completion writes alone (R342) -/

theorem State.complete_completes (e : ErrCode) (s : State) : CompletedWith e s (s.complete e) := ⟨rfl, rfl, rfl, rfl⟩

theorem State.complete_keepsSettings (e : ErrCode) (s : State) : KeepsSettings s (s.complete e) := by simp [KeepsSettings]

theorem State.complete_atRest (e : ErrCode) (s : State) : AtRest (s.complete e) := ⟨rfl, rfl, rfl, rfl⟩

/-- Everything is as it was but OVERRUN, what the completion writes (R342) and the sequencing registers: the frame that an illegal
word, NOP and CLRERR share (R320 to R322). -/
def KeepsAllButOverrun (s t : State) : Prop :=
  KeepsSettings s t ∧ KeepsSchedule s t ∧ KeepsBlk s t ∧ KeepsDatapath s t ∧ KeepsMemory s t ∧ t.outlen = s.outlen ∧
    t.faultUndef = s.faultUndef ∧ t.draws = s.draws

theorem State.complete_keepsAllButOverrun (e : ErrCode) (s : State) : KeepsAllButOverrun s (s.complete e) :=
  ⟨s.complete_keepsSettings e, ⟨rfl, rfl⟩, ⟨rfl, rfl⟩, ⟨rfl, rfl, rfl⟩, fun _ => rfl, rfl, rfl, rfl⟩

/-! ## Illegal words, NOP and CLRERR -/

theorem step_of_completionTurn {s u : State} (hturn : s.nextTurn = (.completion, u)) (hb : u.busy = true) :
    step s = completionStep u := by
  rw [step, hturn]
  exact if_pos hb

theorem completionStep_of_illegal {s : State} {why : IllegalWord} (h : decode s.cmdreg = .illegal why) :
    completionStep s = .next (s.complete .illegalCmd) := by
  rw [completionStep, h]
  rfl

/-- Settles O5: the completion step of an illegal word is its completion writes. -/
theorem illegalWordChangesNothingElse : Obligations.IllegalWordChangesNothingElse := by
  intro s u hturn hb why hillegal
  obtain ⟨hsettings, hsched, hblk, hdatapath, hmem, hlen, hfault, hdraws⟩ := u.complete_keepsAllButOverrun .illegalCmd
  exact ⟨_, (step_of_completionTurn hturn hb).trans (completionStep_of_illegal hillegal), u.complete_completes _, hsettings,
    hsched, hblk, hdatapath, hmem, hlen, u.complete_overrun _, hfault, hdraws, u.complete_atRest _⟩

/-- Settles O11: NOP is its completion writes. -/
theorem nopChangesNothingElse : Obligations.NopChangesNothingElse := by
  intro s
  have hc := s.complete_completes .ok
  obtain ⟨hsettings, hsched, hblk, hdatapath, hmem, hlen, hfault, hdraws⟩ := s.complete_keepsAllButOverrun .ok
  exact ⟨_, rfl, hc, hsettings, hsched, hblk, hdatapath, hmem, hlen, s.complete_overrun _, hfault, hdraws,
    s.complete_atRest _, hc.lastOp_of_cmdreg⟩

/-- Neither `CompletedWith` nor `KeepsAllButOverrun` reads OVERRUN, which CLRERR clears before it completes (R321). -/
theorem State.clrerr_completes (s : State) : CompletedWith .ok s (({ s with overrun := false } : State).complete .ok) ∧
    KeepsAllButOverrun s (({ s with overrun := false } : State).complete .ok) :=
  ⟨State.complete_completes .ok { s with overrun := false },
    State.complete_keepsAllButOverrun .ok { s with overrun := false }⟩

/-- Settles O12: CLRERR clears OVERRUN and ends in its completion writes. -/
theorem clrerrClearsOverrunOnly : Obligations.ClrerrClearsOverrunOnly := by
  intro s
  obtain ⟨hc, hsettings, hsched, hblk, hdatapath, hmem, hlen, hfault, hdraws⟩ := s.clrerr_completes
  exact ⟨_, rfl, hc, State.complete_overrun _ _, hsettings, hsched, hblk, hdatapath, hmem, hlen, hfault, hdraws,
    State.complete_atRest _ _, hc.lastOp_of_cmdreg⟩

/-! ## ZEROIZE -/

theorem Schedule.zero_pAt (i : Nat) : Schedule.zero.pAt i = 0#32 := by
  by_cases hi : i < 18 <;> simp [Schedule.pAt, Schedule.zero, hi]

theorem Schedule.zero_sAt (k j : Nat) : Schedule.zero.sAt k j = 0#32 := by
  by_cases hk : k < 4 <;> by_cases hj : j < 256 <;> simp [Schedule.sAt, Schedule.zero, hk, hj]

/-- Clearing another buffer leaves what a buffer holds. -/
theorem BufHolds.bufClear {b b' : Buf} {r : List Byte} {s : State} (h : BufHolds b r s) (hne : b' ≠ b) :
    BufHolds b r (s.bufClear b') := by
  intro i hi
  exact (s.bufRead_bufWrite_of_ne hne (by simp) hi).trans (h i hi)

/-- ZEROIZE leaves every buffer zero: each is cleared, and the clears that follow are of other buffers. -/
theorem State.zeroize_holds (s : State) (b : Buf) : BufHolds b [] s.zeroize := by
  refine BufHolds.of_eq (s := (((s.bufClear .key).bufClear .iv).bufClear .inp).bufClear .out) ?_ rfl rfl
  cases b with
  | key => exact (((s.bufClear_holds .key).bufClear (by decide)).bufClear (by decide)).bufClear (by decide)
  | iv => exact ((State.bufClear_holds _ .iv).bufClear (by decide)).bufClear (by decide)
  | inp => exact (State.bufClear_holds _ .inp).bufClear (by decide)
  | out => exact State.bufClear_holds _ .out

/-- ZEROIZE writes no byte outside the four buffers. -/
theorem State.zeroize_read_of_outside {s : State} {a : Nat} (h : ∀ b, ¬ InBuf s.params b a) :
    Memory.read s.zeroize.mem a = Memory.read s.mem a :=
  calc Memory.read s.zeroize.mem a
    _ = Memory.read (((s.bufClear .key).bufClear .iv).bufClear .inp).mem a := State.bufClear_keepsOutside _ .out a (h .out)
    _ = Memory.read ((s.bufClear .key).bufClear .iv).mem a := State.bufClear_keepsOutside _ .inp a (h .inp)
    _ = Memory.read (s.bufClear .key).mem a := State.bufClear_keepsOutside _ .iv a (h .iv)
    _ = Memory.read s.mem a := State.bufClear_keepsOutside _ .key a (h .key)

/-- ZEROIZE's erasing reaches neither the settings nor CMDREG, from which LAST_OP is taken. -/
theorem State.zeroize_completes (s : State) :
    CompletedWith .ok s (s.zeroize.complete .ok) ∧ KeepsSettings s (s.zeroize.complete .ok) :=
  ⟨s.zeroize.complete_completes .ok, s.zeroize.complete_keepsSettings .ok⟩

/-- Settles O13: ZEROIZE erases, then ends in its completion writes, which touch neither the tables nor memory. -/
theorem zeroizeErasesEverything : Obligations.ZeroizeErasesEverything := by
  intro s
  obtain ⟨hc, hsettings⟩ := s.zeroize_completes
  have hbuf : ∀ b, BufHolds b [] (s.zeroize.complete .ok) := fun b => (s.zeroize_holds b).of_eq rfl rfl
  exact ⟨_, rfl, hc, fun i _ => Schedule.zero_pAt i, fun k j _ _ => Schedule.zero_sAt k j, hbuf .key, hbuf .iv, hbuf .inp,
    hbuf .out, rfl, rfl, rfl, rfl, rfl, rfl, hsettings, rfl, rfl, rfl, rfl, s.zeroize.complete_atRest .ok,
    hc.lastOp_of_cmdreg, fun _ => State.zeroize_read_of_outside⟩

end Sys2Proof.Machine
end

section
/-! The lifecycle of a command: its issue (R341), its completion (R342), the steps that change BUSY (R340), and the end of a
running command under the model's interleaving (R344). -/

namespace Sys2Proof.Machine

/-! ## Completion -/

/-- The state a command ends in: some state of its own, with the completion writes of R342 on it. -/
def IsCompletion (t : State) : Prop := ∃ e u, t = State.complete e u

theorem State.cryptCommand_isCompletion (d : Dir) (s : State) : IsCompletion (s.cryptCommand d) := by
  rcases s.cryptCommand_cases d with ⟨_, -, hs⟩ | ⟨_, _, -, -, hs⟩ | ⟨_, _, _, _, _, -, -, -, hs⟩ |
    ⟨_, _, _, _, _, -, -, -, hs⟩ <;> exact ⟨_, _, hs⟩

theorem State.transformBlk_isCompletion (f : Schedule → Block → Block) (s : State) :
    IsCompletion (s.transformBlk f) := by
  rcases s.transformBlk_cases f with ⟨-, hs⟩ | ⟨-, hs⟩ <;> exact ⟨_, _, hs⟩

theorem execSchedule_isCompletion {s t : State} (he : execSchedule s = .next t) : IsCompletion t := by
  rcases execSchedule_cases s with ⟨-, hx⟩ | ⟨-, -, hx⟩ | ⟨_, -, -, hx⟩ <;> cases hx.symm.trans he <;> exact ⟨_, _, rfl⟩

/-- Every command ends in its completion writes, whatever it reports (R342). -/
theorem exec_isCompletion {i : Instr} {s t : State} (he : exec i s = .next t) : IsCompletion t := by
  cases i with
  | nop | clrerr | zeroize => cases he; exact ⟨_, _, rfl⟩
  | schedule => exact execSchedule_isCompletion he
  | encrypt => cases he; exact s.cryptCommand_isCompletion .encrypt
  | decrypt => cases he; exact s.cryptCommand_isCompletion .decrypt
  | encblk => cases he; exact s.transformBlk_isCompletion encryptBlock
  | decblk => cases he; exact s.transformBlk_isCompletion decryptBlock

/-- No command writes a settings register, CMDREG, or anything of the host agent (R122). -/
theorem exec_keepsSettings {i : Instr} {s t : State} (he : exec i s = .next t) : KeepsSettings s t := by
  cases i with
  | nop => cases he; exact s.complete_keepsSettings .ok
  | schedule => exact execSchedule_keepsSettings he
  | encrypt => cases he; exact s.cryptCommand_keepsSettings .encrypt
  | decrypt => cases he; exact s.cryptCommand_keepsSettings .decrypt
  | encblk => cases he; exact s.transformBlk_keepsSettings encryptBlock
  | decblk => cases he; exact s.transformBlk_keepsSettings decryptBlock
  | clrerr => cases he; exact State.complete_keepsSettings .ok { s with overrun := false }
  | zeroize => cases he; exact s.zeroize.complete_keepsSettings .ok

/-- No command faults or is refused (R344, R347). -/
theorem exec_total (i : Instr) (s : State) : ∃ t, exec i s = .next t := by cases i <;> exact ⟨_, rfl⟩

/-- Settles O4: the completion writes take LAST_OP from the CMDREG that the command kept. -/
theorem everyCommandCompletes : Obligations.EveryCommandCompletes := by
  intro i s
  obtain ⟨t, he⟩ := exec_total i s
  obtain ⟨-, -, -, -, -, hcmdreg, -⟩ := exec_keepsSettings he
  obtain ⟨e, u, rfl⟩ := exec_isCompletion he
  have hlastOp : (u.complete e).lastOp = s.cmdreg.extractLsb' 0 8 := congrArg (·.extractLsb' 0 8) hcmdreg
  exact ⟨u.complete e, e, he, ⟨rfl, hlastOp, rfl, rfl⟩, u.complete_atRest e, exec_keepsSettings he⟩

theorem completionStep_of_command {s : State} {i : Instr} (h : decode s.cmdreg = .command i) :
    completionStep s = exec i s := by
  simp only [completionStep, h]

/-- The engine always has a completion step, for a legal word and for an illegal one. -/
theorem completionStep_total (s : State) : ∃ t, completionStep s = .next t := by
  rcases hd : decode s.cmdreg with i | why
  · rw [completionStep_of_command hd]
    exact exec_total i s
  · exact ⟨_, completionStep_of_illegal hd⟩

/-- Settles O3. -/
theorem completionStepRunsDecodedCommand : Obligations.CompletionStepRunsDecodedCommand := by
  refine fun s u hturn => ⟨fun hb i hd => ?_, fun hb => ?_⟩
  · exact (step_of_completionTurn hturn hb).trans (completionStep_of_command hd)
  · rw [step, hturn]
    exact if_neg (by simp [hb])

/-! ## Issue -/

theorem State.hostWrite_cmd (s : State) (v : Word) : s.hostWrite 0x004#16 v = s.whenIdle (s.issue v) := rfl

/-- The issue of SCHEDULE or ZEROIZE clears SCHED_VALID (R341). -/
theorem State.issue_schedValid_of_rewrite (s : State) {v : Word}
    (h : decode v = .command .schedule ∨ decode v = .command .zeroize) : (s.issue v).schedValid = false := by
  rcases h with h | h <;> simp only [State.issue, h]

/-- The issue of any other word keeps SCHED_VALID (R341). -/
theorem State.issue_schedValid_of_ne (s : State) {v : Word} (hsched : decode v ≠ .command .schedule)
    (hzero : decode v ≠ .command .zeroize) : (s.issue v).schedValid = s.schedValid := by
  unfold State.issue
  split
  · exact absurd ‹_› hsched
  · exact absurd ‹_› hzero
  · rfl

/-- Settles O6: the write is the issue of its word, and 1 and 7 are the words of SCHEDULE and ZEROIZE. -/
theorem cmdWriteIssues : Obligations.CmdWriteIssues := by
  intro s v hb
  have hsched : decode v = .command .schedule ↔ v = 0x00000001#32 := decode_eq_command_iff
  have hzero : decode v = .command .zeroize ↔ v = 0x00000007#32 := decode_eq_command_iff
  dsimp only
  rw [State.hostWrite_cmd, State.whenIdle_of_idle hb]
  exact ⟨rfl, rfl, fun h => s.issue_schedValid_of_rewrite (h.imp hsched.2 hzero.2),
    fun h1 h7 => s.issue_schedValid_of_ne (mt hsched.1 h1) (mt hzero.1 h7),
    rfl, rfl, rfl, rfl, rfl, rfl, rfl, rfl, rfl, rfl, rfl, rfl, rfl, rfl⟩

/-! ## The steps that change BUSY -/

/-- No access of the host ends a running command (R340). -/
theorem hostStep_busy_of_busy {s t : State} (hb : s.busy = true) (he : hostStep s = .next t) : t.busy = true := by
  rcases hostStep_cases s with ⟨-, hx⟩ | ⟨rest, -, hx⟩ | ⟨off, rest, -, -, hx⟩ | ⟨off, v, rest, -, -, hx⟩ |
    ⟨width, off, op, rest, -, -, hx⟩ <;> cases hx.symm.trans he
  · exact hb
  · split <;> exact (s.hostLoad_busy 0x008#16).trans hb
  · exact (s.hostLoad_busy off).trans hb
  · exact State.hostWrite_busy_of_busy hb

/-- A host step that sets BUSY is a write of CMD, and latches its word (R341). -/
theorem hostStep_issues {s t : State} (hb : s.busy = false) (he : hostStep s = .next t) (ht : t.busy = true) :
    ∃ v rest, s.program = HostOp.wr 0x004#16 v :: rest ∧ t.cmdreg = v := by
  have hload : ∀ off, (s.hostLoad off).2.busy ≠ true := fun off => by simp [hb]
  rcases hostStep_cases s with ⟨-, hx⟩ | ⟨rest, -, hx⟩ | ⟨off, rest, -, -, hx⟩ | ⟨off, v, rest, hprog, -, hx⟩ |
    ⟨width, off, op, rest, -, -, hx⟩ <;> cases hx.symm.trans he
  · exact absurd (hb.symm.trans ht) (by decide)
  · split at ht <;> exact absurd ht (hload 0x008#16)
  · exact absurd ht (hload off)
  · obtain ⟨hloc, hissue⟩ := State.hostWrite_issues hb ht
    obtain rfl := locate_eq_cmd hloc
    exact ⟨v, rest, hprog, congrArg State.cmdreg hissue⟩

/-- Settles O7: of the agents only the host can set BUSY, and it and the internal steps never clear it. -/
theorem busyChangesOnlyByIssueCompletionOrReset : Obligations.BusyChangesOnlyByIssueCompletionOrReset := by
  intro s t hstep
  have hturn : s.nextTurn.2.busy = s.busy := by rw [State.nextTurn_snd]
  have hprog : s.nextTurn.2.program = s.program := by rw [State.nextTurn_snd]
  refine ⟨fun hb ht => ?_, fun hb ht => ?_⟩
  · rcases step_next_cases hstep with ⟨hhost, he⟩ | ⟨-, rfl⟩ | ⟨-, -, rfl⟩ | ⟨-, hrun, -⟩ | ⟨-, rfl⟩
    · exact ⟨hhost, hprog ▸ hostStep_issues (hturn.trans hb) he ht⟩
    · simp [hb, hturn] at ht
    · simp [hb, hturn] at ht
    · simp [hb] at hrun
    · cases ht
  · rcases step_next_cases hstep with ⟨-, he⟩ | ⟨-, rfl⟩ | ⟨hc, -⟩ | ⟨hc, -⟩ | ⟨hr, -⟩
    · exact absurd (ht.symm.trans (hostStep_busy_of_busy (hturn.trans hb) he)) (by decide)
    · simp [hb, hturn] at ht
    · exact .inl hc
    · exact .inl hc
    · exact .inr hr

/-! ## Termination -/

/-- A command runs, and the host makes only accesses R85 defines. -/
structure RunsDefined (s : State) : Prop where
  busy    : s.busy = true
  program : programWf s.program = true

theorem programWf_cons {op : HostOp} {rest : List HostOp} :
    programWf (op :: rest) = true ↔ HostOp.wf op = true ∧ programWf rest = true := by
  simp [programWf]

/-- A defined access of the host leaves the command running and takes at most one operation off the program. -/
theorem hostStep_of_runsDefined {s : State} (h : RunsDefined s) :
    ∃ t, hostStep s = .next t ∧ RunsDefined t ∧ t.turns = s.turns := by
  obtain ⟨hb, hwf⟩ := h
  have hrun : ∀ {t : State}, hostStep s = .next t → programWf t.program = true → t.turns = s.turns →
      ∃ t, hostStep s = .next t ∧ RunsDefined t ∧ t.turns = s.turns :=
    fun he hp hts => ⟨_, he, ⟨hostStep_busy_of_busy hb he, hp⟩, hts⟩
  rcases hostStep_cases s with ⟨-, hx⟩ | ⟨rest, hprog, -⟩ | ⟨off, rest, hprog, -, hx⟩ | ⟨off, v, rest, hprog, -, hx⟩ |
    ⟨width, off, op, rest, hprog, hbad, -⟩
  · exact hrun hx hwf rfl
  · exact hrun (hostStep_of_wait hprog) (by rw [hb]; exact hwf) rfl
  · rw [hprog] at hwf
    exact hrun hx (programWf_cons.1 hwf).2 (s.hostLoad_turns off)
  · rw [hprog] at hwf
    exact hrun hx (programWf_cons.1 hwf).2 (s.hostWrite_turns off v)
  · rw [hprog] at hwf
    exact absurd (hbad.symm.trans (programWf_cons.1 hwf).1) (by decide)

/-- The completion turn ends a running command. -/
theorem takeTurn_completion_of_busy {s : State} (hb : s.busy = true) :
    ∃ t, takeTurn .completion s = .next t ∧ t.busy = false := by
  obtain ⟨t, he⟩ := completionStep_total s
  exact ⟨t, (if_pos hb).trans he, completionStep_busy he⟩

/-- Every agent has a step while a command runs: it ends the command or leaves it running. -/
theorem takeTurn_of_runsDefined {s : State} (h : RunsDefined s) (a : Turn) :
    ∃ t, takeTurn a s = .next t ∧ (t.busy = false ∨ RunsDefined t ∧ t.turns = s.turns) := by
  cases a with
  | host =>
    obtain ⟨t, he, ht⟩ := hostStep_of_runsDefined h
    exact ⟨t, he, .inr ht⟩
  | sequencer =>
    obtain ⟨hb, hwf⟩ := h
    refine ⟨s.tick, congrArg Host.Outcome.next (if_pos hb), .inr ⟨⟨?_, ?_⟩, s.tick_turns⟩⟩
    · rw [State.tick_busy, hb]
    · rw [State.tick_program, hwf]
  | completion =>
    obtain ⟨t, he, ht⟩ := takeTurn_completion_of_busy h.busy
    exact ⟨t, he, .inl ht⟩
  | reset => exact ⟨s.powerOnReset, rfl, .inl rfl⟩

/-- Settles O9, by induction on the interleaving: a turn ends the command or shortens the list, and after the last one the
engine completes. -/
theorem runningCommandTerminates : Obligations.RunningCommandTerminates := by
  intro s hb hwf
  induction hturns : s.turns generalizing s with
  | nil =>
    have hturn : s.nextTurn = (.completion, s) := by
      rw [State.nextTurn_nil hturns, State.defaultTurn, if_pos hb]
    obtain ⟨t, he, ht⟩ := takeTurn_completion_of_busy hb
    have hstep : step s = .next t := by rw [step, hturn]; exact he
    exact ⟨1, t, le_rfl, run_succ_of_step 0 hstep, ht⟩
  | cons a rest ih =>
    obtain ⟨t, he, hnext⟩ := takeTurn_of_runsDefined (s := { s with turns := rest }) ⟨hb, hwf⟩ a
    have hstep : step s = .next t := by rw [step, State.nextTurn_cons hturns]; exact he
    rcases hnext with hidle | ⟨⟨hb', hwf'⟩, hrest⟩
    · exact ⟨1, t, by omega, run_succ_of_step 0 hstep, hidle⟩
    · obtain ⟨n, u, hn, hrun, hu⟩ := ih t hb' hwf' hrest
      exact ⟨n + 1, u, Nat.succ_le_succ hn, (run_succ_of_step n hstep).trans hrun, hu⟩

end Sys2Proof.Machine
end

section
/-! The checks of ENCRYPT and DECRYPT in the order of R346, and what a failed one leaves (R272). -/

namespace Sys2Proof.Machine

/-! ## MODE and PAD as the bits of CONFIG (R42) -/

/-- The values of a two-bit field other than the reserved one. -/
theorem field_cases_of_not_reserved : ∀ {x : BitVec 2}, x.toNat ≠ 3 → x = 0#2 ∨ x = 1#2 ∨ x = 2#2 := by decide

theorem State.mode?_of_reserved {s : State} (h : (s.config.extractLsb' 0 2).toNat = 3) : s.mode? = none := by
  have hbits : s.config.extractLsb' 0 2 = 3#2 := BitVec.eq_of_toNat_eq h
  simp [State.mode?, hbits]

theorem State.pad?_of_reserved {s : State} (h : (s.config.extractLsb' 2 2).toNat = 3) : s.pad? = none := by
  have hbits : s.config.extractLsb' 2 2 = 3#2 := BitVec.eq_of_toNat_eq h
  simp [State.pad?, hbits]

/-- A MODE other than 3 is a mode; only 0, ECB, takes no IV, and only 2, CFB, takes partial blocks. -/
theorem State.mode?_of_not_reserved {s : State} (h : (s.config.extractLsb' 0 2).toNat ≠ 3) :
    ∃ m, s.mode? = some m ∧ (usesIv m = true ↔ (s.config.extractLsb' 0 2).toNat ≠ 0) ∧
      (blockAligned m = true ↔ (s.config.extractLsb' 0 2).toNat ≠ 2) := by
  rcases field_cases_of_not_reserved h with hx | hx | hx <;> rw [State.mode?, hx]
  · exact ⟨.ecb, rfl, by decide, by decide⟩
  · exact ⟨.cbc, rfl, by decide, by decide⟩
  · exact ⟨.cfb, rfl, by decide, by decide⟩

/-- A PAD other than 3 is a padding scheme, and 0 is none. -/
theorem State.pad?_of_not_reserved {s : State} (h : (s.config.extractLsb' 2 2).toNat ≠ 3) :
    ∃ p, s.pad? = some p ∧ (p = .none ↔ (s.config.extractLsb' 2 2).toNat = 0) := by
  rcases field_cases_of_not_reserved h with hx | hx | hx <;> rw [State.pad?, hx]
  · exact ⟨.none, rfl, by decide⟩
  · exact ⟨.zero, rfl, by decide⟩
  · exact ⟨.pkcs7, rfl, by decide⟩

/-! ## The checks in their order -/

/-- A reserved MODE or PAD is reported first. -/
theorem State.checks_of_badConfig {s : State} (d : Dir) (h : s.mode? = none ∨ s.pad? = none) :
    s.checks d = .error .badConfig := by
  unfold State.checks
  rcases h with h | h
  · rw [h]
  · rw [h]
    cases s.mode? <;> rfl

/-- With a mode and a padding scheme the four other checks follow in order. -/
theorem State.checks_of_config {s : State} {m : Mode} {p : Pad} (d : Dir) (hm : s.mode? = some m) (hp : s.pad? = some p) :
    s.checks d =
      if s.schedValid = false then .error .noSchedule
      else if usesIv m = true ∧ s.ivlen ≠ 8#4 then .error .ivSize
      else if s.params.msgMax < s.msglen.toNat then .error .msgTooLong
      else if blockAligned m = true ∧ s.msglen.toNat % 8 ≠ 0 ∧ (d = .decrypt ∨ p = .none) then .error .dataLength
      else .ok (m, p) := by
  simp only [State.checks, hm, hp]

/-- A failed check commits an empty result with its code (R272). -/
theorem State.cryptCommand_reports {d : Dir} {s : State} {e : ErrCode} (h : s.checks d = .error e) :
    CompletedWith e s (s.cryptCommand d) ∧ BufHolds .out [] (s.cryptCommand d) ∧ (s.cryptCommand d).outlen = 0#16 ∧
      (s.cryptCommand d).chain = Block.zero ∧ (s.cryptCommand d).faultUndef = s.faultUndef := by
  rw [State.cryptCommand_of_checks_error h]
  exact ⟨⟨rfl, rfl, rfl, rfl⟩, (s.bufClear_holds .out).of_eq rfl rfl, rfl, rfl, rfl⟩

/-- Each message command is `cryptCommand` in its own direction. -/
theorem exec_eq_cryptCommand (s : State) {i : Instr} (hi : i = .encrypt ∨ i = .decrypt) :
    ∃ d, exec i s = .next (s.cryptCommand d) ∧ (i = .decrypt → d = .decrypt) := by
  rcases hi with rfl | rfl
  · exact ⟨.encrypt, rfl, by decide⟩
  · exact ⟨.decrypt, rfl, fun _ => rfl⟩

/-- Settles O36: each clause's premises are the branches of the check order down to its code. -/
theorem checksReportFirstError : Obligations.ChecksReportFirstError := by
  intro s i hi mode pad n
  obtain ⟨d, he, hd⟩ := exec_eq_cryptCommand s hi
  refine ⟨_, he, ?_⟩
  intro failed
  have report : ∀ {e}, s.checks d = .error e → failed e := State.cryptCommand_reports
  by_cases hbad : mode = 3 ∨ pad = 3
  · have hreserved := hbad.imp State.mode?_of_reserved State.pad?_of_reserved
    refine ⟨fun _ => report (State.checks_of_badConfig d hreserved), ?_, ?_, ?_, ?_⟩ <;>
      exact fun hmode hpad => absurd hbad (not_or.2 ⟨hmode, hpad⟩)
  · obtain ⟨hmode, hpad⟩ := not_or.1 hbad
    obtain ⟨m, hm, hiv, haligned⟩ := State.mode?_of_not_reserved hmode
    obtain ⟨p, hp, hnone⟩ := State.pad?_of_not_reserved hpad
    have hc := State.checks_of_config d hm hp
    have hivOk : mode = 0 ∨ s.ivlen = 8#4 → ¬ (usesIv m = true ∧ s.ivlen ≠ 8#4) := by
      rw [hiv]
      tauto
    refine ⟨fun h => absurd h hbad, fun _ _ hv => report ?_, fun _ _ hv hmode0 hlen => report ?_,
      fun _ _ hv hlen hmax => report ?_, fun _ _ hv hlen hmax hmode2 hn hdir => report ?_⟩
    · rw [hc, if_pos hv]
    · rw [hc, if_neg (by simp [hv]), if_pos ⟨hiv.2 hmode0, hlen⟩]
    · rw [hc, if_neg (by simp [hv]), if_neg (hivOk hlen), if_pos hmax]
    · rw [hc, if_neg (by simp [hv]), if_neg (hivOk hlen), if_neg (not_lt.2 hmax),
        if_pos ⟨haligned.2 hmode2, hn, hdir.imp hd hnone.2⟩]

end Sys2Proof.Machine
end
